-- ==== Sys2Proof/Word.lean ====
section
/-! DEFINITION. The widths of the SQ-62's words and numbers (spec/00_scope.md 3.2 to 3.4) and the packing of a register word. -/

namespace Sys2Proof

/-- A word of the host bus (R204: "Every host access is one 16-bit word"). -/
abbrev Word := BitVec 16

/-- One record byte, as it travels in the data lanes D0 to D7 of a frame (R1, R2). -/
abbrev Byte := BitVec 8

/-- The ten lanes of a frame (Table 1-1): bit n is lane Dn for n = 0 to 7, bit 8 is lane E and bit 9 is lane O.
DESIGN CHOICE (log 1): the spec numbers the data lanes and names E and O, it gives E and O no bit numbers. -/
abbrev Lanes := BitVec 10

/-- A command tag, 0 to 15 (spec/00_scope.md 3.2). -/
abbrev Tag := BitVec 4

/-- A transport unit, 0 to 3. -/
abbrev UnitId := Fin 4

/-- A record buffer, 0 or 1. -/
abbrev BufferId := Fin 2

/-- One of the ten read or write lanes, numbered as the bits of `Lanes`. -/
abbrev Lane := Fin 10

/-- A Bool as a one-bit number, for the packing of register words. -/
def bitOf (b : Bool) : Nat := if b then 1 else 0

/-- A register word from its fields, each with the number of its lowest bit (R205 to R209). -/
def packWord (fields : List (Nat × Nat)) : Word :=
  BitVec.ofNat 16 ((fields.map fun f => f.1 * 2 ^ f.2).sum)

end Sys2Proof
end

