-- ==== Sys2Proof/Syntax.lean ====
section
/-! DEFINITION. The commands the block takes: one constructor for each row of spec/opcode_table.json, in the table's order.
A row is a host access, an action, a change of a link line, a pulse, or one of the part's own events (a distance
reached, a timer expired, a command that may start), each whole and indivisible (spec/95_what_each_step_holds.md). -/

namespace Sys2Proof

/-- The direction and data of an access made with DACK asserted (R181). -/
inductive BusAccess where
  | read
  | write (value : Word)
deriving DecidableEq, Repr

/-- The line changes of the row LIVE_LINE_CHANGE (R20). -/
inductive LineChange where
  | loadPointFall
  | endMarkerFall
  | endFall
  | movingRise
deriving DecidableEq, Repr

/-- The commands of the SQ-62. A GO row carries the word written to SUBMIT, which R146 and R204 disregard. -/
inductive Instr where
  -- a write to SUBMIT, by the command code staged in CMD (R146)
  | write (value : Word)
  | writeStream (value : Word)
  | writeMark (value : Word)
  | eraseGap (value : Word)
  | read (value : Word)
  | readStream (value : Word)
  | space (value : Word)
  | spaceMarks (value : Word)
  | locate (value : Word)
  | rewind (value : Word)
  | unload (value : Word)
  | setOrdinal (value : Word)
  | loadProfile (value : Word)
  | badCode (value : Word)
  -- the immediate actions (R206)
  | abort
  | flush
  | controlReset
  | pop
  | clearAttention (unit : UnitId)
  -- host accesses to the register window and accesses made with DACK
  | registerWrite (offset : BitVec 6) (value : Word)
  | statusRead
  | intenWrite (value : Word)
  | catselWrite (value : Word)
  | catinfoRead
  | bufselWrite (value : Word)
  | bufptrWrite (value : Word)
  | bufdataWrite (value : Word)
  | bufdataRead
  | push (value : Word)
  | pull
  | dmasrcWrite (value : Word)
  | dackAccess (access : BusAccess)
  -- the RESET input (R201)
  | hardwareReset
  | resetRelease
  -- changes of a unit's status lines (R20)
  | presentRise (unit : UnitId)
  | presentFall (unit : UnitId)
  | readyRise (unit : UnitId)
  | readyFall (unit : UnitId)
  | loadPointRise (unit : UnitId)
  | endMarkerRise (unit : UnitId)
  | endRise (unit : UnitId)
  | writePermitChange (unit : UnitId) (level : Bool)
  | rewindingRise (unit : UnitId)
  | rewindingFall (unit : UnitId)
  | atSpeedRise (unit : UnitId)
  | atSpeedFall (unit : UnitId)
  | movingFall (unit : UnitId)
  -- pulses of the shared lines, and the close of a frame
  | echo (unit : UnitId)
  | distanceTick (unit : UnitId)
  | frameClose
  -- reference clock limits
  | atSpeedTimeout
  | acceptanceTimeout
  | stopTimeout
  -- distances reached
  | echoDeadline
  | runBreak
  | closeLimit
  | searchLimit
  | guardEnd
  | leaderEnd
  | lcfPlace
  | drainDeadline
  | trailerPlacement
  | trailerDeadline
  | rewriteGapEnd
  | eraseEnd
  | endOfFinish
  -- the Command Unit's own steps and the effect of a control reset
  | startFromRest
  | nonMediumCommandExecution
  | controlResetEffect
  -- read-lane pulses, the half-period point and the line changes no other row names
  | readLanePulse (unit : UnitId) (lane : Lane) (strong : Bool)
  | halfPeriodPoint
  | liveLineChange (unit : UnitId) (change : LineChange)
deriving DecidableEq, Repr

end Sys2Proof
end

