-- ==== Sys2Proof/Decode.lean ====
section
/-! DEFINITION. The reading of a table word as a command. No row of spec/opcode_table.json gives a command any bits
(spec/98_reader.md counts none), so no word spells one. -/

namespace Sys2Proof

/-- The command a word spells by the bits of spec/opcode_table.json: none, for every word. -/
def decodeTableWord (_nbits _w : Nat) : Option Instr := none

end Sys2Proof
end

