-- ==== Sys2Proof/Config.lean ====
section
/-! DEFINITION. The distances, limits and capacities the manual fixes. The spec leaves no value of this part open
(log 3), so no opaque constant stands here. Distances are in frame periods (fp). -/

namespace Sys2Proof.Config

/-- R10: the guard, from AT SPEED to H0 of a write from rest away from the load point. -/
def guardTicks : Nat := 60
/-- R11: the leader, from AT SPEED, of a forward write-class operation that starts at the load point. -/
def leaderTicks : Nat := 600
/-- R5: the check spacing, from the last frame of the header run to the LCF place. -/
def checkSpacing : Nat := 4
/-- R6: the trailer placement, from the verdict (or the LCF place) to the first trailer frame. -/
def trailerPlacement : Nat := 4
/-- R45, Table 3-1: what the drain and trailer deadlines add to the head distance. -/
def deadlineMargin : Nat := 4
/-- R9: the finishing distance; R9 and R12: what the longer one and the rewrite gap add to the head distance. -/
def finishTicks : Nat := 16
/-- R13: the fp in one unit of ERASE GAP's COUNT. -/
def eraseUnit : Nat := 100
/-- R14: the count of ticks at which a run breaks. -/
def runBreakTicks : Nat := 2
/-- R16: the close limit. -/
def closeLimit : Nat := 96
/-- R17: the search limit. -/
def searchLimit : Nat := 4000
/-- R90, R169: the bytes of a record buffer and the most data frames of a record. -/
def recordBytes : Nat := 4096
/-- R101: the entries the verify window can hold. -/
def windowSize : Nat := 64
/-- R123: the entries one catalogue can hold. -/
def catalogueSize : Nat := 32
/-- R149: the commands the queue can hold. -/
def queueSize : Nat := 4
/-- R185: the records the completion ring can hold. -/
def ringSize : Nat := 8
/-- R175: the bytes the stream queue can hold. -/
def streamSize : Nat := 64
/-- R98: the count of voids at which a READ ends VOID LIMIT. -/
def voidLimit : Nat := 8
/-- R154, R182: where the records-passed count stops. -/
def passedLimit : Nat := 4095
/-- R107, R182: where a corrected or marginal count stops. -/
def frameCountLimit : Nat := 255
/-- R107, R182: where a skew count stops. -/
def skewCountLimit : Nat := 15
/-- R198: where the FLUSH discard count stops. -/
def discardLimit : Nat := 15
/-- Table 2-4: the head distance of a profile after hardware reset. -/
def resetHeadDistance : Nat := 32

end Sys2Proof.Config
end

