-- ==== Sys2Proof/Machine/Types.lean ====
section
/-! DEFINITION. The plain data the ten blocks hold (spec/00_scope.md Table 1): units, records, frames, commands, completions. -/

namespace Sys2Proof.Machine

/-! ### Four units, two buffers -/

/-- One value for each unit, 0 to 3. -/
structure PerUnit (α : Type) where
  u0 : α
  u1 : α
  u2 : α
  u3 : α
deriving DecidableEq, Repr

def PerUnit.get {α : Type} (p : PerUnit α) (u : UnitId) : α :=
  match u with
  | 0 => p.u0
  | 1 => p.u1
  | 2 => p.u2
  | 3 => p.u3

def PerUnit.set {α : Type} (p : PerUnit α) (u : UnitId) (a : α) : PerUnit α :=
  match u with
  | 0 => { p with u0 := a }
  | 1 => { p with u1 := a }
  | 2 => { p with u2 := a }
  | 3 => { p with u3 := a }

/-- The same function on every unit's value. -/
def PerUnit.map {α β : Type} (f : α → β) (p : PerUnit α) : PerUnit β :=
  { u0 := f p.u0, u1 := f p.u1, u2 := f p.u2, u3 := f p.u3 }

/-- Some unit's value satisfies the test. -/
def PerUnit.any {α : Type} (p : PerUnit α) (f : α → Bool) : Bool :=
  f p.u0 || f p.u1 || f p.u2 || f p.u3

/-- One value for each record buffer, 0 and 1. -/
structure PerBuffer (α : Type) where
  b0 : α
  b1 : α
deriving DecidableEq, Repr

def PerBuffer.get {α : Type} (p : PerBuffer α) (b : BufferId) : α :=
  match b with
  | 0 => p.b0
  | 1 => p.b1

def PerBuffer.set {α : Type} (p : PerBuffer α) (b : BufferId) (a : α) : PerBuffer α :=
  match b with
  | 0 => { p with b0 := a }
  | 1 => { p with b1 := a }

def PerBuffer.map {α β : Type} (f : α → β) (p : PerBuffer α) : PerBuffer β :=
  { b0 := f p.b0, b1 := f p.b1 }

/-! ### Commands (Chapter 8) -/

/-- The thirteen commands (R205). -/
inductive CommandCode where
  | write | writeStream | writeMark | eraseGap | read | readStream | space | spaceMarks | locate
  | rewind | unload | setOrdinal | loadProfile
deriving DecidableEq, Repr

/-- A command as the queue and the active operation record hold it: the fields the command uses, the rest zero
("Fields that a command does not use are not checked and are not kept", R146). -/
structure Command where
  tag : Tag
  code : CommandCode
  unit : UnitId
  reverse : Bool
  count : Nat
  arg : Word
  retry : Nat
  buffer : BufferId
  strict : Bool
  weakStart : Bool
deriving DecidableEq, Repr

/-- The result shown by a read of SUBMIT (R206). -/
inductive SubmitResult where
  | none | accepted | queueFull | resetPending | badCode | badCount | badArgument | bufferBusy
deriving DecidableEq, Repr

/-! ### The transport link (Chapter 2) -/

/-- The nine status lines of one unit (Table 2-1). -/
structure Lines where
  present : Bool
  ready : Bool
  loadPoint : Bool
  endMarker : Bool
  endLine : Bool
  writePermit : Bool
  rewinding : Bool
  moving : Bool
  atSpeed : Bool
deriving DecidableEq, Repr

/-- The nine lines by name. -/
inductive Line where
  | present | ready | loadPoint | endMarker | endLine | writePermit | rewinding | moving | atSpeed
deriving DecidableEq, Repr

/-- The six attention causes of a unit (Table 2-5). -/
structure Causes where
  becameReady : Bool
  lostReady : Bool
  rewound : Bool
  unloaded : Bool
  permitChanged : Bool
  stopFault : Bool
deriving DecidableEq, Repr

/-- The six causes by name. -/
inductive Cause where
  | becameReady | lostReady | rewound | unloaded | permitChanged | stopFault
deriving DecidableEq, Repr

/-- A unit's profile (Table 2-4). -/
structure Profile where
  headDistance : Nat
  strict : Bool
  weakStart : Bool
deriving DecidableEq, Repr

/-- The unit states of Table 2-3. -/
inductive UnitState where
  | absent | notReady | idle | ramping | runningForward | runningReverse | stopping | rewinding | unloading
deriving DecidableEq, Repr

/-- What the TLC holds for one unit. -/
structure UnitLink where
  lines : Lines
  state : UnitState
  causes : Causes
  profile : Profile
deriving DecidableEq, Repr

/-- The motion requests of Table 2-2. -/
inductive MotionRequest where
  | forward | forwardWrite | reverse | stop | rewind | unload
deriving DecidableEq, Repr

/-- The Transport Link Controller. `request` is the request last sent on the shared lines. -/
structure TransportLink where
  units : PerUnit UnitLink
  selected : Option UnitId
  request : Option MotionRequest
  atSpeedTimer : Bool
  acceptanceTimer : Bool
  stopTimer : Bool
deriving DecidableEq, Repr

/-! ### Records and the catalogue (Chapters 1 and 7) -/

/-- What a record is (H0, lane D0: R3). -/
inductive Kind where
  | data | mark
deriving DecidableEq, Repr

/-- The two trailers the part writes (R6). -/
inductive TrailerKind where
  | commit | void
deriving DecidableEq, Repr

/-- The trailer a record is reported with (R77, R94, R124). -/
inductive Trailer where
  | none | commit | void
deriving DecidableEq, Repr

inductive Condition where
  | clean | corrected | damaged | unchecked
deriving DecidableEq, Repr

/-- The ordinal and copy number of a valid header; the copy is absent with the ordinal (R90, R124). -/
structure Ident where
  ordinal : Word
  copy : BitVec 3
deriving DecidableEq, Repr

/-- A record as reported to the RC and as a catalogue entry holds it (R94, R124). -/
structure RecordInfo where
  ident : Option Ident
  kind : Kind
  length : Nat
  long : Bool
  trailer : Trailer
  condition : Condition
deriving DecidableEq, Repr

inductive CatalogueState where
  | unknown | floating | anchored
deriving DecidableEq, Repr

/-- One unit's catalogue (R123). -/
structure Catalogue where
  state : CatalogueState
  entries : List RecordInfo
  position : Nat
deriving DecidableEq, Repr

/-- The plan the RC hands to LOCATE (R140). -/
inductive Plan where
  | zero
  | space (count : Nat) (reverse : Bool)
  | search
deriving DecidableEq, Repr

/-- The snapshot the host reads the catalogue from (R142). -/
structure Snapshot where
  state : CatalogueState
  count : Nat
  position : Nat
  nextOrdinal : Word
  entry : Option RecordInfo
deriving DecidableEq, Repr

/-- The Record Catalogue. -/
structure RecordCatalogue where
  catalogues : PerUnit Catalogue
  nextOrdinals : PerUnit Word
  selectUnit : UnitId
  selectIndex : Fin 32
  snapshot : Snapshot
deriving DecidableEq, Repr

/-! ### Frames written (Chapter 4) -/

/-- A frame's role (R76). -/
inductive FrameRole where
  | header | data | lcf | trailer
deriving DecidableEq, Repr

inductive CopySource where
  | buffer (b : BufferId)
  | stream
  | none
deriving DecidableEq, Repr

inductive CutCause where
  | underrun | abort
deriving DecidableEq, Repr

inductive LcfStatus where
  | pending | written | echoed | blank
deriving DecidableEq, Repr

/-- How much of a copy's trailer stands, and its kind (R62). -/
inductive TrailerStatus where
  | none
  | first (kind : TrailerKind)
  | complete (kind : TrailerKind)
deriving DecidableEq, Repr

/-- How a copy ended (Table 4-2); `inProgress` is the table's "open" of R62. -/
inductive CopyEnding where
  | inProgress | sealed | void | unsealed | trailerFailed
deriving DecidableEq, Repr

/-- The copy account of R62. -/
structure CopyAccount where
  kind : Kind
  ordinal : Word
  copy : Nat
  source : CopySource
  planned : Nat
  headerRun : Nat
  dataFrames : Nat
  cut : Option CutCause
  lcf : LcfStatus
  trailer : TrailerStatus
  passed : Bool
  ended : CopyEnding
deriving DecidableEq, Repr

/-- The Frame Writer. `lanes` and `strobe` are the write lanes and strobe of the shared link: the value last driven, and
whether a frame has been strobed since the last distance tick. -/
structure FrameWriter where
  gate : Bool
  watch : Option FrameRole
  acc : Lanes
  account : Option CopyAccount
  lanes : Lanes
  strobe : Bool
deriving DecidableEq, Repr

/-! ### Frames read (Chapter 5) -/

inductive FrameStatus where
  | clean | marginal | corrected | unreadable
deriving DecidableEq, Repr

/-- A closed frame as it is handed on (R84, R85). -/
structure ReadFrame where
  value : Lanes
  status : FrameStatus
  skew : Bool
  strong : Lanes
deriving DecidableEq, Repr

/-- The frame being assembled (R82, R83): the sets S and W, whether sampling is still open, the skew mark, the ticks taken since the
opening, and whether an event of R95 has already ended its run with it (log 21). -/
structure Assembly where
  strong : Lanes
  weak : Lanes
  sampling : Bool
  skew : Bool
  age : Nat
  handed : Bool
deriving DecidableEq, Repr

/-- The tallies of a run (R86). -/
structure Tallies where
  corrected : Nat
  marginal : Nat
  unreadable : Nat
  skewed : Nat
deriving DecidableEq, Repr

/-- The run in progress (R86): `first` holds its first three frames, oldest first; `last` its latest three, newest first.
`eligible`, `lengthExcess` and `overrun` belong to its delivery (R87). -/
structure Run where
  length : Nat
  xor : Lanes
  first : List ReadFrame
  last : List ReadFrame
  tallies : Tallies
  eligible : Bool
  lengthExcess : Bool
  overrun : Bool
deriving DecidableEq, Repr

/-- A header run as decoded at its break (R90), with what the form and frame checks need (R93). -/
structure Header where
  ident : Option Ident
  kind : Kind
  length : Nat
  long : Bool
  bad : Bool
  malformed : Bool
  unreadable : Bool
  soft : Bool
deriving DecidableEq, Repr

/-- The open record of the parse (R88, R89): going forward it has its header, in reverse it awaits it. -/
structure OpenRecord where
  header : Option Header
  lcf : Bool
  trailer : Option TrailerKind
  received : Bool
  lengthExcess : Bool
  overrun : Bool
deriving DecidableEq, Repr

inductive Manner where
  | check | pass
deriving DecidableEq, Repr

/-- The FR's mode, with the direction of PARSE (R81). -/
inductive ReaderMode where
  | idle
  | readback
  | parse (reverse : Bool)
deriving DecidableEq, Repr

/-- The command account (section 5.6); `stopped` is the OC's order to stop delivery (R87, R197). -/
structure ReadAccount where
  corrected : Nat
  marginal : Nat
  skew : Nat
  fragments : Bool
  voids : Nat
  receiving : Bool
  stopped : Bool
deriving DecidableEq, Repr

/-- The Frame Reader. `runCount` is the run tracker's count of ticks since the last opening; `search` is the search count, none
while it is stopped. -/
structure FrameReader where
  mode : ReaderMode
  manner : Manner
  weakStart : Bool
  frame : Option Assembly
  run : Option Run
  runCount : Nat
  record : Option OpenRecord
  acc : Lanes
  closeCount : Nat
  search : Option Nat
  account : ReadAccount
deriving DecidableEq, Repr

/-- What the FR tells the OC at a close (R94). `trailer` none is a record closed unsealed. -/
structure CloseReport where
  ident : Option Ident
  kind : Kind
  trailer : Trailer
  received : Bool
  dataCheck : Bool
  lengthExcess : Bool
  overrun : Bool
  long : Bool
deriving DecidableEq, Repr

/-- What the OC learns from the parse at a break, a close limit or a terminating event: a close, or the loss of an open
reverse record to fragments (R89). -/
inductive ParseReport where
  | quiet
  | closed (report : CloseReport)
  | lost
deriving DecidableEq, Repr

/-! ### Verification (Chapter 6) -/

/-- The failure kinds of Table 6-3. -/
inductive FailureKind where
  | value | unreadable | marginal | skew | extra | dropped | overflow
deriving DecidableEq, Repr

inductive VerifyState where
  | idle | listening | trailerCheck
deriving DecidableEq, Repr

/-- An entry of the verify window (R76, R101). -/
structure WindowEntry where
  value : Lanes
  role : FrameRole
  index : Nat
deriving DecidableEq, Repr

/-- The Verify Unit. A failure record is held by its first failure; `blankNotice` says the blank-LCF notice of the copy has been
taken (R109). -/
structure VerifyUnit where
  state : VerifyState
  window : List WindowEntry
  copyFailure : Option FailureKind
  trailerFailure : Option FailureKind
  soft : Bool
  blankNotice : Bool
  reported : Option FailureKind
  corrected : Nat
  marginal : Nat
  skew : Nat
deriving DecidableEq, Repr

/-- A verdict on a copy, with its soft mark (R111), or on its commit trailer (R112). -/
inductive Verdict where
  | copy (pass soft : Bool)
  | trailer (pass : Bool)
deriving DecidableEq, Repr

/-! ### Completions (Chapter 10) -/

/-- The outcomes of Table 10-1. -/
inductive CmdOutcome where
  | done | mark | loadPoint | endOfMedium | blank | notFound | dataCheck | lengthExcess | unsealed | voidRead
  | voidLimit | verifyFailed | trailerFailed | writeFault | underrun | overrun | transportFault | notReady
  | writeProtected | unitRewinding | noTransport | aborted
deriving DecidableEq, Repr

/-- The qualifiers of Table 10-2. -/
structure Qualifiers where
  endWarning : Bool
  atLoadPoint : Bool
  corrected : Bool
  marginal : Bool
  skew : Bool
  staleDiscarded : Bool
  voidsSkipped : Bool
  fragments : Bool
  longRecord : Bool
  abortLate : Bool
  unsealed : Bool
  dataCheck : Bool
  overrun : Bool
  lengthExcess : Bool
deriving DecidableEq, Repr

def Qualifiers.empty : Qualifiers :=
  { endWarning := false, atLoadPoint := false, corrected := false, marginal := false, skew := false,
    staleDiscarded := false, voidsSkipped := false, fragments := false, longRecord := false, abortLate := false,
    unsealed := false, dataCheck := false, overrun := false, lengthExcess := false }

/-- A completion record (R182). -/
structure Completion where
  tag : Tag
  code : CommandCode
  unit : UnitId
  outcome : CmdOutcome
  copies : Nat
  ordinal : Option Word
  qualifiers : Qualifiers
  failure : Option FailureKind
  byteCount : Nat
  passed : Nat
  corrected : Nat
  marginal : Nat
  skew : Nat
deriving DecidableEq, Repr

/-- The Completion Unit (R185). The ring stands oldest first. -/
structure CompletionUnit where
  ring : List Completion
  held : Option Completion
deriving DecidableEq, Repr

/-! ### Buffers and the stream queue (Chapter 9) -/

/-- A byte memory of a record buffer: (index, byte) pairs with rising indexes and no byte equal to what an unlisted index
reads as, which is zero, the contents hardware reset gives (R169). -/
abbrev BufferMemory := List Host.Cell

/-- One record buffer (R169). -/
structure RecordBuffer where
  contents : BufferMemory
  committed : Bool
  pointer : Nat
  fill : Nat
deriving DecidableEq, Repr

/-- The DMA source (R180). -/
inductive DmaSource where
  | off | bufferIn | bufferOut | stream
deriving DecidableEq, Repr

/-- The Buffer Unit. The stream queue stands oldest byte first. -/
structure BufferUnit where
  buffers : PerBuffer RecordBuffer
  select : BufferId
  stream : List Byte
  delivery : Bool
  dma : DmaSource
deriving DecidableEq, Repr

/-! ### The Command Unit, the Host Window and the Operation Controller -/

/-- The Command Unit (R148, R149). The queue stands oldest first. -/
structure CommandUnit where
  queue : List Command
  tagCounter : Tag
  lastTag : Tag
  result : SubmitResult
deriving DecidableEq, Repr

/-- The Host Window: staging, enables, sticky flags, the RESET input and the data lines of the bus. `dataOut` is the word the
last read put on the bus. -/
structure HostWindow where
  cmd : Word
  count : Word
  arg : Word
  mode : Word
  completionEnable : Bool
  attentionEnable : Bool
  resetDoneEnable : Bool
  accessRefused : Bool
  streamRefused : Bool
  abortIgnored : Bool
  resetPending : Bool
  resetDone : Bool
  discards : Nat
  resetInput : Bool
  dataOut : Word
deriving DecidableEq, Repr

/-- The phases of an active operation (Chapter 3). START is one step and never rests (R194), so it is no phase here. `chained` is
the model's own name for the stretch from the chain to the first tick after FINISH (log 12); TURN is its stop, its
reverse ramp and its reverse pass (R54). -/
inductive Phase where
  | ramp | leader | guard | headerData | checkSpace | lcf | drain
  | trailer (kind : TrailerKind)
  | trailerCheck | rewriteGap | erase | search | record | turnStop | turnRamp | turnPass | acceptance | chained
deriving DecidableEq, Repr

/-- The active operation record (R43). `verdict` is the copy's verdict and soft mark once given; `skipped` says its verify pass
was skipped; `voidOutcome` is the outcome the cause of an ordered void trailer gives; `abortMark` and `abortLate` are
R194's and R196's; `endRisen` says END MARKER rose during a LOCATE search (R165); `marks` counts SPACE MARKS. -/
structure Active where
  cmd : Command
  reverse : Bool
  profile : Profile
  phase : Phase
  fromRest : Bool
  loadPointAtStart : Bool
  ordinal : Option Word
  copyCounter : Nat
  plan : Option Plan
  verdict : Option (Bool × Bool)
  skipped : Bool
  voidOutcome : CmdOutcome
  abortMark : Bool
  abortLate : Bool
  endRisen : Bool
  passed : Nat
  marks : Nat
  bytes : Nat
  qualifiers : Qualifiers
deriving DecidableEq, Repr

/-- What the OC keeps through the finishing distance (R43). -/
structure Finishing where
  unit : UnitId
  writeClass : Bool
  reverse : Bool
deriving DecidableEq, Repr

/-- The four modes of the Operation Controller (R44). -/
inductive Operation where
  | idle
  | active (a : Active)
  | finishing (f : Finishing)
  | stopping
deriving DecidableEq, Repr

/-- A deadline count and its target (R45). -/
structure Deadline where
  count : Nat
  target : Nat
deriving DecidableEq, Repr

/-- The Phase Timer (R45). `phase` and `deadline` are none while their count is zero and stopped; `target` is none in a phase that
ends at no distance. -/
structure PhaseTimer where
  phase : Option Nat
  target : Option Nat
  deadline : Option Deadline
deriving DecidableEq, Repr

end Sys2Proof.Machine
end

