-- ==== Sys2Proof/Machine/State.lean ====
section
/-! DEFINITION. The state of the SQ-62: its ten blocks (spec/00_scope.md Table 1) and the queue of waiting commands; the state
after hardware reset; the two reason types of a step. -/

namespace Sys2Proof.Machine

/-- Everything the manual gives the part, block by block, and the commands that wait. -/
structure State where
  hw : HostWindow
  cu : CommandUnit
  oc : Operation
  timer : PhaseTimer
  tlc : TransportLink
  fw : FrameWriter
  fr : FrameReader
  vu : VerifyUnit
  rc : RecordCatalogue
  bu : BufferUnit
  cmp : CompletionUnit
  pending : List Instr
deriving DecidableEq, Repr

/-- What stops the machine with a fault: nothing. The manual gives every command of the table an effect, so no meaning
raises a fault (NOTES.md, Stops). An empty type is safe: no claim can rest on a fault. -/
inductive Fault : Type
deriving DecidableEq, Repr

/-- Why a step has no meaning. -/
inductive Refusal where
  /-- Raised only by an arm of `exec` whose command has no meaning yet; no arm raises it in this model. Safe: it stops the run. -/
  | notModelled (mnemonic : String)
deriving DecidableEq, Repr

/-! ### One update for each block -/

def State.setHw (s : State) (x : HostWindow) : State := { s with hw := x }
def State.setCu (s : State) (x : CommandUnit) : State := { s with cu := x }
def State.setOc (s : State) (x : Operation) : State := { s with oc := x }
def State.setTimer (s : State) (x : PhaseTimer) : State := { s with timer := x }
def State.setTlc (s : State) (x : TransportLink) : State := { s with tlc := x }
def State.setFw (s : State) (x : FrameWriter) : State := { s with fw := x }
def State.setFr (s : State) (x : FrameReader) : State := { s with fr := x }
def State.setVu (s : State) (x : VerifyUnit) : State := { s with vu := x }
def State.setRc (s : State) (x : RecordCatalogue) : State := { s with rc := x }
def State.setBu (s : State) (x : BufferUnit) : State := { s with bu := x }
def State.setCmp (s : State) (x : CompletionUnit) : State := { s with cmp := x }
def State.setPending (s : State) (x : List Instr) : State := { s with pending := x }

/-! ### Reset values -/

/-- Every line low: no transport is connected (DESIGN CHOICE, log 4: the lines are the transports', not the part's). -/
def Lines.low : Lines :=
  { present := false, ready := false, loadPoint := false, endMarker := false, endLine := false,
    writePermit := false, rewinding := false, moving := false, atSpeed := false }

/-- No cause set (R42). -/
def Causes.none : Causes :=
  { becameReady := false, lostReady := false, rewound := false, unloaded := false, permitChanged := false,
    stopFault := false }

/-- Table 2-4's reset values. -/
def Profile.reset : Profile := { headDistance := Config.resetHeadDistance, strict := false, weakStart := false }

/-- R144: UNKNOWN, no entries, position 0. -/
def Catalogue.unknown : Catalogue := { state := .unknown, entries := [], position := 0 }

/-- R203: the catalogue registers after hardware reset. -/
def Snapshot.reset : Snapshot :=
  { state := .unknown, count := 0, position := 0, nextOrdinal := 0, entry := none }

/-- R144. -/
def RecordCatalogue.reset : RecordCatalogue :=
  { catalogues := { u0 := .unknown, u1 := .unknown, u2 := .unknown, u3 := .unknown },
    nextOrdinals := { u0 := 0, u1 := 0, u2 := 0, u3 := 0 },
    selectUnit := 0, selectIndex := 0, snapshot := .reset }

/-- R79: gate OFF, echo watch IDLE, accumulator zero, copy account empty. -/
def FrameWriter.reset : FrameWriter :=
  { gate := false, watch := none, acc := 0, account := none, lanes := 0, strobe := false }

/-- R100: the command account empty, the receiving flag clear. -/
def ReadAccount.empty : ReadAccount :=
  { corrected := 0, marginal := 0, skew := 0, fragments := false, voids := 0, receiving := false, stopped := false }

/-- R100. -/
def FrameReader.reset : FrameReader :=
  { mode := .idle, manner := .pass, weakStart := false, frame := none, run := none, runCount := 0, record := none,
    acc := 0, closeCount := 0, search := none, account := .empty }

/-- R121. -/
def VerifyUnit.reset : VerifyUnit :=
  { state := .idle, window := [], copyFailure := none, trailerFailure := none, soft := false, blankNotice := false,
    reported := none, corrected := 0, marginal := 0, skew := 0 }

/-- R169: contents zero, OPEN, pointer and fill 0. -/
def RecordBuffer.reset : RecordBuffer := { contents := [], committed := false, pointer := 0, fill := 0 }

/-- R169, R175, R180. -/
def BufferUnit.reset : BufferUnit :=
  { buffers := { b0 := .reset, b1 := .reset }, select := 0, stream := [], delivery := false, dma := .off }

/-- R193. -/
def CompletionUnit.reset : CompletionUnit := { ring := [], held := none }

/-- R168. -/
def CommandUnit.reset : CommandUnit := { queue := [], tagCounter := 0, lastTag := 0, result := .none }

/-- R45, R61: the counts zero and stopped. -/
def PhaseTimer.stopped : PhaseTimer := { phase := none, target := none, deadline := none }

/-- R193, R203. The word on the data lines is the model's (DESIGN CHOICE, log 5). -/
def HostWindow.reset : HostWindow :=
  { cmd := 0, count := 0, arg := 0, mode := 0, completionEnable := false, attentionEnable := false,
    resetDoneEnable := false, accessRefused := false, streamRefused := false, abortIgnored := false,
    resetPending := false, resetDone := false, discards := 0, resetInput := false, dataOut := 0 }

/-- A unit with no transport connected: ABSENT (R42). -/
def UnitLink.reset : UnitLink := { lines := .low, state := .absent, causes := .none, profile := .reset }

/-- R42. -/
def TransportLink.reset : TransportLink :=
  { units := { u0 := .reset, u1 := .reset, u2 := .reset, u3 := .reset }, selected := none, request := none,
    atSpeedTimer := false, acceptanceTimer := false, stopTimer := false }

/-- The part right after hardware reset, RESET released, with no transport connected and no command waiting (R201, log 4). -/
def State.reset : State :=
  { hw := .reset, cu := .reset, oc := .idle, timer := .stopped, tlc := .reset, fw := .reset, fr := .reset,
    vu := .reset, rc := .reset, bu := .reset, cmp := .reset, pending := [] }

end Sys2Proof.Machine
end

