-- ==== Sys2Proof/Machine/Catalogue.lean ====
section
/-! DEFINITION. The catalogue of one unit: records passed forward and in reverse, the load point, truncation, anchoring and
invalidation, the next ordinal, and the planning of a LOCATE (Chapter 7). -/

namespace Sys2Proof.Machine

/-- A record passed forward (R126, R127). -/
def Catalogue.passForward (c : Catalogue) (r : RecordInfo) : Catalogue :=
  match c.state with
  | .unknown => { state := .floating, entries := [r], position := 1 }
  | st =>
    if c.position < c.entries.length then
      { state := st, entries := c.entries.set c.position r, position := c.position + 1 }
    else if c.entries.length < Config.catalogueSize then
      { state := st, entries := c.entries ++ [r], position := c.entries.length + 1 }
    else
      { state := .floating, entries := c.entries.drop 1 ++ [r], position := c.entries.length }

/-- A record passed in reverse (R129, R130). -/
def Catalogue.passReverse (c : Catalogue) (r : RecordInfo) : Catalogue :=
  match c.state with
  | .unknown => { state := .floating, entries := [r], position := 0 }
  | st =>
    if 0 < c.position then
      { state := st, entries := c.entries.set (c.position - 1) r, position := c.position - 1 }
    else
      { state := .floating, entries := (r :: c.entries).take Config.catalogueSize, position := 0 }

/-- The medium is at the load point: the entries below the position go, the catalogue is ANCHORED (R132). -/
def Catalogue.atLoadPoint (c : Catalogue) : Catalogue :=
  { state := .anchored, entries := c.entries.drop c.position, position := 0 }

/-- The truncation before a write (R133). -/
def Catalogue.truncate (c : Catalogue) : Catalogue :=
  match c.state with
  | .unknown => c
  | .anchored => { c with entries := c.entries.take c.position }
  | .floating =>
    if (c.entries.take c.position).isEmpty then Catalogue.unknown
    else { c with entries := c.entries.take c.position }

/-- BECAME READY and REWOUND: ANCHORED, no entries, position 0 (R135). -/
def Catalogue.anchoredEmpty : Catalogue := { state := .anchored, entries := [], position := 0 }

/-- The next ordinal after a record passed forward (R128). -/
def nextAfterForward (next : Word) (r : RecordInfo) (passedMark : Bool) : Word :=
  match r.ident with
  | some i => if decide (r.trailer = .commit) || (passedMark && decide (r.trailer = .none)) then i.ordinal + 1 else next
  | none => next

/-- The next ordinal after a record passed in reverse (R131). -/
def nextAfterReverse (next : Word) (r : RecordInfo) : Word :=
  match r.ident with
  | some i => if r.trailer = .commit then i.ordinal else next
  | none => next

/-- The entry is a candidate of the tier with this trailer (R139). -/
def RecordInfo.candidate (r : RecordInfo) (target : Word) (tier : Trailer) : Bool :=
  match r.ident with
  | some i => decide (i.ordinal = target) && decide (r.trailer = tier)
  | none => false

/-- The plan for a candidate n records ahead: distance zero when it stands at the position (R140). -/
def planAhead (n : Nat) : Plan := if n = 0 then .zero else .space n false

/-- The nearest candidate of a tier, the one ahead when two are equally near (R140). -/
def Catalogue.planIn (c : Catalogue) (target : Word) (tier : Trailer) : Option Plan :=
  let ahead := (c.entries.drop c.position).findIdx? (RecordInfo.candidate · target tier)
  let behind := ((c.entries.take c.position).reverse).findIdx? (RecordInfo.candidate · target tier)
  match ahead, behind with
  | some a, some b => some (if a ≤ b + 1 then planAhead a else .space (b + 1) true)
  | some a, none => some (planAhead a)
  | none, some b => some (.space (b + 1) true)
  | none, none => none

/-- The plan of a LOCATE: the committed tier first, then the records with trailer none, else a forward search (R139, R140). -/
def Catalogue.plan (c : Catalogue) (target : Word) : Plan :=
  match c.planIn target .commit with
  | some p => p
  | none =>
    match c.planIn target .none with
    | some p => p
    | none => .search

/-- The snapshot of the selected unit and entry index (R142, R143). -/
def RecordCatalogue.takeSnapshot (rc : RecordCatalogue) : RecordCatalogue :=
  let c := rc.catalogues.get rc.selectUnit
  { rc with
    snapshot :=
      { state := c.state, count := c.entries.length, position := c.position,
        nextOrdinal := rc.nextOrdinals.get rc.selectUnit, entry := c.entries[rc.selectIndex.val]? } }

end Sys2Proof.Machine
end

