-- ==== Sys2Proof/Machine/Operands.lean ====
section
/-! DEFINITION. The operand forms: the fields of the staging registers and of written words (R205, R206, R208, R209), the
properties of the thirteen command codes, and the command a GO forms from the staging registers (R146). -/

namespace Sys2Proof.Machine

/-- `n` bits of a word, from bit `start`, as a number. -/
def fieldOf (w : Word) (start n : Nat) : Nat := (w.extractLsb' start n).toNat

/-- One bit of a word. -/
def flagOf (w : Word) (n : Nat) : Bool := w.getLsbD n

/-- A two-bit unit field. -/
def unitOf (w : Word) (start : Nat) : UnitId := (w.extractLsb' start 2).toFin

/-- A one-bit buffer field. -/
def bufferOf (w : Word) (start : Nat) : BufferId := (w.extractLsb' start 1).toFin

/-- The command a code names (R205); codes 0, 14 and 15 name none. -/
def CommandCode.ofNumber (n : Nat) : Option CommandCode :=
  match n with
  | 1 => some .write
  | 2 => some .writeStream
  | 3 => some .writeMark
  | 4 => some .eraseGap
  | 5 => some .read
  | 6 => some .readStream
  | 7 => some .space
  | 8 => some .spaceMarks
  | 9 => some .locate
  | 10 => some .rewind
  | 11 => some .unload
  | 12 => some .setOrdinal
  | 13 => some .loadProfile
  | _ => none

/-- The code of a command (R205). -/
def CommandCode.number : CommandCode → Nat
  | .write => 1
  | .writeStream => 2
  | .writeMark => 3
  | .eraseGap => 4
  | .read => 5
  | .readStream => 6
  | .space => 7
  | .spaceMarks => 8
  | .locate => 9
  | .rewind => 10
  | .unload => 11
  | .setOrdinal => 12
  | .loadProfile => 13

/-- WRITE, WRITE STREAM, WRITE MARK and ERASE GAP (spec/00_scope.md Table 2). -/
def CommandCode.writeClass : CommandCode → Bool
  | .write | .writeStream | .writeMark | .eraseGap => true
  | _ => false

/-- READ, READ STREAM, SPACE, SPACE MARKS and LOCATE. -/
def CommandCode.readClass : CommandCode → Bool
  | .read | .readStream | .space | .spaceMarks | .locate => true
  | _ => false

/-- Every command but SET ORDINAL and LOAD PROFILE moves the medium or asks a transport to. -/
def CommandCode.medium : CommandCode → Bool
  | .setOrdinal | .loadProfile => false
  | _ => true

/-- WRITE and READ name a record buffer, and no other command does (R170). -/
def CommandCode.namesBuffer : CommandCode → Bool
  | .write | .read => true
  | _ => false

/-- The write-class commands that write copies. -/
def CommandCode.writesCopies : CommandCode → Bool
  | .write | .writeStream | .writeMark => true
  | _ => false

/-- Check manner applies to READ and READ STREAM (R81); they are also the commands that receive a record. -/
def CommandCode.receives : CommandCode → Bool
  | .read | .readStream => true
  | _ => false

/-- The direction staged is used by SPACE and SPACE MARKS (R146). -/
def CommandCode.usesDirection : CommandCode → Bool
  | .space | .spaceMarks => true
  | _ => false

/-- WRITE and WRITE MARK take a retry limit from MODE (R115, R146). -/
def CommandCode.usesRetry : CommandCode → Bool
  | .write | .writeMark => true
  | _ => false

/-- The range of COUNT, for the commands that use it (R146). -/
def CommandCode.countRange : CommandCode → Option (Nat × Nat)
  | .write | .writeStream | .read | .readStream => some (1, Config.recordBytes)
  | .eraseGap => some (1, 40)
  | .space | .spaceMarks | .locate => some (1, 4095)
  | _ => none

/-- LOCATE, SET ORDINAL and LOAD PROFILE use ARG (R146). -/
def CommandCode.usesArg : CommandCode → Bool
  | .locate | .setOrdinal | .loadProfile => true
  | _ => false

/-! ### The staged fields (R205) -/

/-- The command the staged code names, if any. -/
def HostWindow.code (hw : HostWindow) : Option CommandCode := CommandCode.ofNumber (fieldOf hw.cmd 0 4)

def HostWindow.unit (hw : HostWindow) : UnitId := unitOf hw.cmd 4
def HostWindow.reverse (hw : HostWindow) : Bool := flagOf hw.cmd 6
def HostWindow.retry (hw : HostWindow) : Nat := fieldOf hw.mode 0 3
def HostWindow.buffer (hw : HostWindow) : BufferId := bufferOf hw.mode 3
def HostWindow.strict (hw : HostWindow) : Bool := flagOf hw.mode 4
def HostWindow.weakStart (hw : HostWindow) : Bool := flagOf hw.mode 5

/-- The command a GO forms: the fields its code uses, the others zero (R146). -/
def stagedCommand (hw : HostWindow) (code : CommandCode) (tag : Tag) : Command :=
  { tag := tag
    code := code
    unit := hw.unit
    reverse := code.usesDirection && hw.reverse
    count := if code.countRange.isSome then hw.count.toNat else 0
    arg := if code.usesArg then hw.arg else 0
    retry := if code.usesRetry then hw.retry else 0
    buffer := if code.namesBuffer then hw.buffer else 0
    strict := decide (code = .loadProfile) && hw.strict
    weakStart := decide (code = .loadProfile) && hw.weakStart }

/-- COUNT lies in the command's range, or the command does not use it (R147). -/
def countInRange (hw : HostWindow) (code : CommandCode) : Bool :=
  match code.countRange with
  | none => true
  | some (low, high) => decide (low ≤ hw.count.toNat) && decide (hw.count.toNat ≤ high)

/-- LOAD PROFILE's ARG lies in 12 to 56; no other command's ARG is checked (R147). -/
def argInRange (hw : HostWindow) (code : CommandCode) : Bool :=
  match code with
  | .loadProfile => decide (12 ≤ hw.arg.toNat) && decide (hw.arg.toNat ≤ 56)
  | _ => true

/-- The five actions of the ACTION register (R206). -/
inductive HostAction where
  | abort | flush | controlReset | pop
  | clearAttention (unit : UnitId)
deriving DecidableEq, Repr

/-- The action a word written to ACTION names; 0, 6 and 7 name none (R206). -/
def HostAction.ofWord (value : Word) : Option HostAction :=
  match fieldOf value 0 3 with
  | 1 => some .abort
  | 2 => some .flush
  | 3 => some .controlReset
  | 4 => some .pop
  | 5 => some (.clearAttention (unitOf value 4))
  | _ => none

/-- The DMA source a word names (R209). -/
def DmaSource.ofWord (value : Word) : DmaSource :=
  match fieldOf value 0 2 with
  | 1 => .bufferIn
  | 2 => .bufferOut
  | 3 => .stream
  | _ => .off

/-- The number of a DMA source (R209). -/
def DmaSource.number : DmaSource → Nat
  | .off => 0
  | .bufferIn => 1
  | .bufferOut => 2
  | .stream => 3

/-- The earlier byte of a port word: its low half (R2). -/
def lowByte (w : Word) : Byte := w.extractLsb' 0 8
/-- The later byte of a port word: its high half (R2). -/
def highByte (w : Word) : Byte := w.extractLsb' 8 8
/-- A port word from its earlier and its later byte (R2). -/
def portWord (low high : Byte) : Word := high ++ low

/-- The word with only its `n` low bits kept: "Bits that the layouts below do not name read 0" (R204). -/
def namedBits (w : Word) (n : Nat) : Word := BitVec.ofNat 16 (w.toNat % 2 ^ n)

end Sys2Proof.Machine
end

