-- ==== Sys2Proof/Machine/Buffers.lean ====
section
/-! DEFINITION. The Buffer Unit: record buffers, the stream queue and what each access and command does to them (Chapter 9). -/

namespace Sys2Proof.Machine

/-! ### The contents of a record buffer -/

/-- The byte at an index; an index with no entry reads zero, the contents hardware reset gives (R169). -/
def BufferMemory.read (m : BufferMemory) (a : Nat) : Byte :=
  match m with
  | [] => 0
  | (k, v) :: rest => if k = a then v else BufferMemory.read rest a

/-- Stores a byte and keeps the one canonical form: rising indexes, no zero byte. -/
def BufferMemory.write (m : BufferMemory) (a : Nat) (v : Byte) : BufferMemory :=
  match m with
  | [] => if v = 0#8 then [] else [(a, v)]
  | (k, w) :: rest =>
    if a < k then (if v = 0#8 then (k, w) :: rest else (a, v) :: (k, w) :: rest)
    else if a = k then (if v = 0#8 then rest else (a, v) :: rest)
    else (k, w) :: BufferMemory.write rest a v

/-- The index lies above the bound, when there is one. -/
def aboveBound (low : Option Nat) (a : Nat) : Bool :=
  match low with
  | none => true
  | some b => decide (b < a)

/-- Every index above the bound, rising, with no zero byte. -/
def BufferMemory.wfAbove (low : Option Nat) (m : BufferMemory) : Bool :=
  match m with
  | [] => true
  | (k, v) :: rest =>
    aboveBound low k && decide (v ≠ 0#8) && BufferMemory.wfAbove (some k) rest

/-- The canonical form of a buffer's contents. -/
def BufferMemory.wf (m : BufferMemory) : Bool := BufferMemory.wfAbove none m

/-! ### Buffers -/

def BufferUnit.buffer (bu : BufferUnit) (b : BufferId) : RecordBuffer := bu.buffers.get b

def BufferUnit.setBuffer (bu : BufferUnit) (b : BufferId) (r : RecordBuffer) : BufferUnit :=
  { bu with buffers := bu.buffers.set b r }

/-- The buffer the data port reaches (R169). -/
def BufferUnit.selected (bu : BufferUnit) : RecordBuffer := bu.buffer bu.select

def BufferUnit.commit (bu : BufferUnit) (b : BufferId) : BufferUnit :=
  bu.setBuffer b { bu.buffer b with committed := true }

def BufferUnit.release (bu : BufferUnit) (b : BufferId) : BufferUnit :=
  bu.setBuffer b { bu.buffer b with committed := false }

def BufferUnit.setFill (bu : BufferUnit) (b : BufferId) (n : Nat) : BufferUnit :=
  bu.setBuffer b { bu.buffer b with fill := n }

/-- The buffer of a WRITE or READ returns to OPEN; other commands name none (R170). -/
def BufferUnit.releaseFor (bu : BufferUnit) (c : Command) : BufferUnit :=
  if c.code.namesBuffer then bu.release c.buffer else bu

/-- The data port answers: the selected buffer is OPEN and its pointer is below 4096 (R172, R173). -/
def BufferUnit.portOpen (bu : BufferUnit) : Bool :=
  !bu.selected.committed && decide (bu.selected.pointer < Config.recordBytes)

/-- Where an access of the data port leaves the pointer: p + 2, or 4096 if that is less (R172, R173). -/
def nextPointer (p : Nat) : Nat := min (p + 2) Config.recordBytes

/-- The contents after a word is stored at the pointer; the high half is discarded at 4095 (R172). -/
def RecordBuffer.storeWord (r : RecordBuffer) (w : Word) : RecordBuffer :=
  let p := r.pointer
  let low := r.contents.write p (lowByte w)
  { r with
    contents := if p + 1 < Config.recordBytes then low.write (p + 1) (highByte w) else low
    pointer := nextPointer p }

/-- A byte of the data port, governed by the fill (R173). -/
def RecordBuffer.byteBelowFill (r : RecordBuffer) (i : Nat) : Byte := if i < r.fill then r.contents.read i else 0

/-- The word a read of the data port returns (R173). -/
def RecordBuffer.portValue (r : RecordBuffer) : Word :=
  portWord (r.byteBelowFill r.pointer) (r.byteBelowFill (r.pointer + 1))

/-- A byte of a READ's record is stored at the index equal to the fill, and the fill rises by one (R174). Index 4096 does not
exist, so a full buffer stores nothing (R169). -/
def RecordBuffer.storeRecordByte (r : RecordBuffer) (v : Byte) : RecordBuffer :=
  if r.fill < Config.recordBytes then { r with contents := r.contents.write r.fill v, fill := r.fill + 1 } else r

/-! ### The stream queue -/

/-- A WRITE STREAM stands in the list of commands. -/
def holdsWriteStream (queue : List Command) : Bool := queue.any fun c => decide (c.code = .writeStream)

/-- At least 2 bytes are free (R176). -/
def BufferUnit.streamRoom (bu : BufferUnit) : Bool := decide (bu.stream.length + 2 ≤ Config.streamSize)

/-- The two bytes of an accepted push, low half first (R176). -/
def BufferUnit.pushWord (bu : BufferUnit) (w : Word) : BufferUnit :=
  { bu with stream := bu.stream ++ [lowByte w, highByte w] }

/-- The word a pull returns (R177). -/
def pullValue (stream : List Byte) : Word :=
  match stream with
  | [] => 0
  | [a] => portWord a 0
  | a :: b :: _ => portWord a b

/-- The queue emptied by one of the causes of Chapter 9, which clears the delivery mark (R175). -/
def BufferUnit.emptyStream (bu : BufferUnit) : BufferUnit := { bu with stream := [], delivery := false }

/-- The delivery mark clears when the queue is empty and no READ STREAM is active (R175, R177, R179). -/
def BufferUnit.settleDelivery (bu : BufferUnit) (readStreamActive : Bool) : BufferUnit :=
  if bu.stream.isEmpty && !readStreamActive then { bu with delivery := false } else bu

/-- What the start of a command does to buffers and queue, and whether STALE DISCARDED follows (R174, R178, R179). -/
def BufferUnit.atStart (bu : BufferUnit) (c : Command) : BufferUnit × Bool :=
  match c.code with
  | .read => (bu.setFill c.buffer 0, false)
  | .writeStream => if bu.delivery then (bu.emptyStream, !bu.stream.isEmpty) else (bu, false)
  | .readStream => ({ bu with stream := [], delivery := true }, !bu.stream.isEmpty)
  | _ => (bu, false)

/-- What the posting of a command does to buffers and queue, and whether STALE DISCARDED follows (R170, R178, R179). `queue`
holds the commands that wait. -/
def BufferUnit.atPosting (bu : BufferUnit) (c : Command) (queue : List Command) : BufferUnit × Bool :=
  let bu := bu.releaseFor c
  match c.code with
  | .writeStream => if holdsWriteStream queue then (bu, false) else (bu.emptyStream, !bu.stream.isEmpty)
  | .readStream => (bu.settleDelivery false, false)
  | _ => (bu, false)

/-- What FLUSH does: the buffers of the discarded commands OPEN, and the queue emptied when no WRITE STREAM is active and the
delivery mark is clear (R170, R178). -/
def BufferUnit.atFlush (bu : BufferUnit) (discarded : List Command) (writeStreamActive : Bool) : BufferUnit :=
  let bu := discarded.foldl BufferUnit.releaseFor bu
  if !writeStreamActive && !bu.delivery then bu.emptyStream else bu

/-- What a control reset does when it takes effect: both buffers OPEN, the queue emptied; contents, pointers, fill, select and
DMA source kept (R169, R175, R180). -/
def BufferUnit.atControlReset (bu : BufferUnit) : BufferUnit :=
  { bu with buffers := bu.buffers.map fun r => { r with committed := false }, stream := [], delivery := false }

end Sys2Proof.Machine
end

