-- ==== Sys2Proof/Machine/Completions.lean ====
section
/-! DEFINITION. The Completion Unit: the placing of a completion and POP (R185 to R187), and the codes of the completion words. -/

namespace Sys2Proof.Machine

/-- The record enters the ring, or the held slot when the ring holds 8 (R185). -/
def CompletionUnit.place (c : CompletionUnit) (r : Completion) : CompletionUnit :=
  if c.ring.length < Config.ringSize then { c with ring := c.ring ++ [r] } else { c with held := some r }

/-- POP: the oldest record goes, and a held record moves to the newest end; on an empty ring nothing changes (R187). -/
def CompletionUnit.pop (c : CompletionUnit) : CompletionUnit :=
  match c.ring with
  | [] => c
  | _ :: rest => { ring := rest ++ c.held.toList, held := none }

/-- The tag is carried by a completion in the ring or by the held one (R147). -/
def CompletionUnit.carries (c : CompletionUnit) (t : Tag) : Bool :=
  (c.ring.any fun r => decide (r.tag = t)) || (match c.held with | some r => decide (r.tag = t) | none => false)

/-- The outcome codes of Table 10-1. -/
def CmdOutcome.number : CmdOutcome → Nat
  | .done => 0
  | .mark => 1
  | .loadPoint => 2
  | .endOfMedium => 3
  | .blank => 4
  | .notFound => 5
  | .dataCheck => 6
  | .lengthExcess => 7
  | .unsealed => 8
  | .voidRead => 9
  | .voidLimit => 10
  | .verifyFailed => 11
  | .trailerFailed => 12
  | .writeFault => 13
  | .underrun => 14
  | .overrun => 15
  | .transportFault => 16
  | .notReady => 17
  | .writeProtected => 18
  | .unitRewinding => 19
  | .noTransport => 20
  | .aborted => 21

/-- The first verify failure codes of R207; 0 is absent. -/
def failureNumber : Option FailureKind → Nat
  | none => 0
  | some .value => 1
  | some .unreadable => 2
  | some .marginal => 3
  | some .skew => 4
  | some .extra => 5
  | some .dropped => 6
  | some .overflow => 7

/-- The result codes of a SUBMIT read (R206). -/
def SubmitResult.number : SubmitResult → Nat
  | .none => 0
  | .accepted => 1
  | .queueFull => 2
  | .resetPending => 3
  | .badCode => 4
  | .badCount => 5
  | .badArgument => 6
  | .bufferBusy => 7

/-- The completion a command posts with no work done: no ordinal, zero in every count (R151, R153). -/
def Completion.bare (c : Command) (o : CmdOutcome) : Completion :=
  { tag := c.tag, code := c.code, unit := c.unit, outcome := o, copies := 0, ordinal := none,
    qualifiers := .empty, failure := none, byteCount := 0, passed := 0, corrected := 0, marginal := 0, skew := 0 }

end Sys2Proof.Machine
end

