-- ==== Sys2Proof/Machine/Flags.lean ====
section
/-! DEFINITION. The flags and output levels: the sticky flags (R190), attention causes (R37, R189), INT (R192), DRQ (R180), RESET
PENDING and RESET DONE (R191), and the qualifier word (R207). -/

namespace Sys2Proof.Machine

/-! ### Sticky flags -/

def HostWindow.refuseAccess (hw : HostWindow) : HostWindow := { hw with accessRefused := true }
def HostWindow.refuseStream (hw : HostWindow) : HostWindow := { hw with streamRefused := true }
def HostWindow.ignoreAbort (hw : HostWindow) : HostWindow := { hw with abortIgnored := true }

/-- FLUSH adds the number of commands it removed; the count stays at 15 (R198). -/
def HostWindow.addDiscards (hw : HostWindow) (n : Nat) : HostWindow :=
  { hw with discards := min (hw.discards + n) Config.discardLimit }

/-- What a STATUS read clears: the three sticky flags, RESET DONE and the discard count (R190, R191, R198). -/
def HostWindow.clearStatus (hw : HostWindow) : HostWindow :=
  { hw with accessRefused := false, streamRefused := false, abortIgnored := false, resetDone := false, discards := 0 }

/-- What a control reset leaves of the Host Window: flags clear, RESET PENDING clear, RESET DONE set, the discard count 0 (R190,
R191, R198). -/
def HostWindow.atControlReset (hw : HostWindow) : HostWindow :=
  { hw with
    accessRefused := false, streamRefused := false, abortIgnored := false, resetPending := false, resetDone := true,
    discards := 0 }

/-- The word of a STATUS read (R206). -/
def HostWindow.statusWord (hw : HostWindow) : Word :=
  packWord
    [(bitOf hw.accessRefused, 0), (bitOf hw.streamRefused, 1), (bitOf hw.abortIgnored, 2), (bitOf hw.resetPending, 3),
     (bitOf hw.resetDone, 4), (hw.discards, 8)]

/-! ### Attention causes -/

/-- Raising a cause that is already set leaves it set (R37). -/
def Causes.raise (c : Causes) (k : Cause) : Causes :=
  match k with
  | .becameReady => { c with becameReady := true }
  | .lostReady => { c with lostReady := true }
  | .rewound => { c with rewound := true }
  | .unloaded => { c with unloaded := true }
  | .permitChanged => { c with permitChanged := true }
  | .stopFault => { c with stopFault := true }

/-- One or more causes are set: the unit's summary mark (R189). -/
def Causes.any (c : Causes) : Bool :=
  c.becameReady || c.lostReady || c.rewound || c.unloaded || c.permitChanged || c.stopFault

/-! ### Output levels -/

/-- INT (R192); low while RESET is asserted (R201). -/
def State.int (s : State) : Bool :=
  !s.hw.resetInput &&
    ((s.hw.completionEnable && !s.cmp.ring.isEmpty) ||
     (s.hw.attentionEnable && s.tlc.units.any fun l => l.causes.any) ||
     (s.hw.resetDoneEnable && s.hw.resetDone))

/-- The active operation, if any. -/
def State.active (s : State) : Option Active :=
  match s.oc with
  | .active a => some a
  | _ => none

/-- The active command is of this code. -/
def State.activeIs (s : State) (code : CommandCode) : Bool :=
  match s.oc with
  | .active a => decide (a.cmd.code = code)
  | _ => false

/-- A push would be accepted: 2 bytes free, a WRITE STREAM queued or active, the delivery mark clear (R176). -/
def State.pushAccepted (s : State) : Bool :=
  s.bu.streamRoom && (holdsWriteStream s.cu.queue || s.activeIs .writeStream) && !s.bu.delivery

/-- DRQ (R180); low while RESET is asserted (R201). -/
def State.drq (s : State) : Bool :=
  !s.hw.resetInput &&
    match s.bu.dma with
    | .off => false
    | .bufferIn => s.bu.portOpen
    | .bufferOut => !s.bu.selected.committed && decide (s.bu.selected.pointer < s.bu.selected.fill)
    | .stream => s.pushAccepted || (s.bu.delivery && !s.bu.stream.isEmpty)

/-! ### Qualifiers -/

/-- The qualifier bits of completion word 5, from bit 0 (R207). -/
def Qualifiers.word (q : Qualifiers) : Word :=
  packWord
    [(bitOf q.endWarning, 0), (bitOf q.atLoadPoint, 1), (bitOf q.corrected, 2), (bitOf q.marginal, 3), (bitOf q.skew, 4),
     (bitOf q.staleDiscarded, 5), (bitOf q.voidsSkipped, 6), (bitOf q.fragments, 7), (bitOf q.longRecord, 8),
     (bitOf q.abortLate, 9), (bitOf q.unsealed, 10), (bitOf q.dataCheck, 11), (bitOf q.overrun, 12),
     (bitOf q.lengthExcess, 13)]

end Sys2Proof.Machine
end

