-- ==== Sys2Proof/Machine/Frames.lean ====
section
/-! DEFINITION. Frames: their vertical checks and written values (R1, R3, R6), the selection of a read frame (R84), the run
tallies (R86), header decoding and trailer recognition (R90, R91). -/

namespace Sys2Proof.Machine

/-! ### Values written -/

/-- An odd number of ones in the even group: E with D0, D2, D4, D6 (R1). -/
def evenGroupOdd (v : Lanes) : Bool :=
  ((v.getLsbD 8).xor (v.getLsbD 0)).xor (((v.getLsbD 2).xor (v.getLsbD 4)).xor (v.getLsbD 6))

/-- An odd number of ones in the odd group: O with D1, D3, D5, D7 (R1). -/
def oddGroupOdd (v : Lanes) : Bool :=
  ((v.getLsbD 9).xor (v.getLsbD 1)).xor (((v.getLsbD 3).xor (v.getLsbD 5)).xor (v.getLsbD 7))

/-- The frame passes its vertical checks (R1). -/
def passesChecks (v : Lanes) : Bool := evenGroupOdd v && oddGroupOdd v

/-- The frame that carries a byte: E is one when the even data lanes hold an even number of ones, O likewise of the odd data
lanes (R1). -/
def frameOf (b : Byte) : Lanes :=
  let e : Bool := !(((b.getLsbD 0).xor (b.getLsbD 2)).xor ((b.getLsbD 4).xor (b.getLsbD 6)))
  let o : Bool := !(((b.getLsbD 1).xor (b.getLsbD 3)).xor ((b.getLsbD 5).xor (b.getLsbD 7)))
  (BitVec.ofBool o ++ BitVec.ofBool e) ++ b

/-- The data lanes of a frame. -/
def dataLanes (v : Lanes) : Byte := v.extractLsb' 0 8

/-- Lane n alone. -/
def laneBit (l : Lane) : Lanes := BitVec.ofNat 10 (2 ^ l.val)

/-- H0: kind in D0, copy number in D1 to D3, D4 to D7 zero (R3). -/
def headerZero (kind : Kind) (copy : Nat) : Byte :=
  BitVec.ofNat 8 ((match kind with | .data => 0 | .mark => 1) + 2 * (copy % 8))

/-- Header frame n of a copy: H0, then the ordinal's high byte, then its low byte (R3). -/
def headerByte (kind : Kind) (copy : Nat) (ordinal : Word) (n : Nat) : Byte :=
  match n with
  | 0 => headerZero kind copy
  | 1 => ordinal.extractLsb' 8 8
  | _ => ordinal.extractLsb' 0 8

/-- The first and second frame of a trailer, as bytes (R6). -/
def trailerFirst : TrailerKind → Byte
  | .commit => 0x3C
  | .void => 0x66
def trailerSecond : TrailerKind → Byte
  | .commit => 0xC3
  | .void => 0x99

/-! ### Values read -/

/-- The selection of R84, from the sets S and W. -/
def selectFrame (a : Assembly) : ReadFrame :=
  if passesChecks a.strong then
    { value := a.strong, status := if a.weak = a.strong then .clean else .marginal, skew := a.skew, strong := a.strong }
  else if passesChecks a.weak then
    { value := a.weak, status := .corrected, skew := a.skew, strong := a.strong }
  else
    { value := a.strong, status := .unreadable, skew := a.skew, strong := a.strong }

/-- Clean, marginal or corrected (R84). -/
def ReadFrame.readable (f : ReadFrame) : Bool := decide (f.status ≠ .unreadable)

/-- The opening pulse is the frame's first sample: strong enters S and W, weak enters W (R82). -/
def openAssembly (lane : Lane) (strong : Bool) : Assembly :=
  { strong := if strong then laneBit lane else 0, weak := laneBit lane, sampling := true, skew := false, age := 0,
    handed := false }

/-- A pulse on an open frame: sampled before the half-period point; after it a strong pulse marks skew and a weak one is
disregarded (R83). -/
def Assembly.pulse (a : Assembly) (lane : Lane) (strong : Bool) : Assembly :=
  if a.sampling then
    { a with strong := if strong then a.strong ||| laneBit lane else a.strong, weak := a.weak ||| laneBit lane }
  else if strong then { a with skew := true }
  else a

/-! ### Runs -/

def Tallies.zero : Tallies := { corrected := 0, marginal := 0, unreadable := 0, skewed := 0 }

/-- The tallies with one more frame. -/
def Tallies.add (t : Tallies) (f : ReadFrame) : Tallies :=
  { corrected := t.corrected + (if f.status = .corrected then 1 else 0)
    marginal := t.marginal + (if f.status = .marginal then 1 else 0)
    unreadable := t.unreadable + (if f.status = .unreadable then 1 else 0)
    skewed := t.skewed + (if f.skew then 1 else 0) }

/-- A run that begins, all its items at zero (R86). -/
def Run.start (eligible : Bool) : Run :=
  { length := 0, xor := 0, first := [], last := [], tallies := .zero, eligible := eligible, lengthExcess := false,
    overrun := false }

/-- A frame joins the run (R86). -/
def Run.join (r : Run) (f : ReadFrame) : Run :=
  { r with
    length := r.length + 1
    xor := r.xor ^^^ f.value
    first := (r.first ++ [f]).take 3
    last := (f :: r.last).take 3
    tallies := r.tallies.add f }

/-- Trailer recognition in the direction of travel (R91): both frames readable, the two values of R6 on all ten lanes; in
reverse the second trailer frame arrives first. -/
def Run.trailerPattern (r : Run) (reverse : Bool) : Option TrailerKind :=
  match r.first with
  | [a, b] =>
    let x := if reverse then b else a
    let y := if reverse then a else b
    if a.readable && b.readable then
      if x.value = frameOf (trailerFirst .commit) && y.value = frameOf (trailerSecond .commit) then some .commit
      else if x.value = frameOf (trailerFirst .void) && y.value = frameOf (trailerSecond .void) then some .void
      else none
    else none
  | _ => none

/-- H0, H1 and H2 of a header run: the first three frames going forward, the last three seen in reverse (R15). -/
def Run.headerFrames (r : Run) (reverse : Bool) : List ReadFrame := if reverse then r.last else r.first

/-- The header decoded from a run of three frames or more (R90). -/
def Run.decodeHeader (r : Run) (reverse : Bool) : Header :=
  let frames := r.length - 3
  let long := decide (Config.recordBytes < frames)
  let length := if long then Config.recordBytes else frames
  let unreadable := decide (0 < r.tallies.unreadable)
  let soft := decide (0 < r.tallies.corrected) || decide (0 < r.tallies.marginal)
  match r.headerFrames reverse with
  | [h0, h1, h2] =>
    let b0 := dataLanes h0.value
    let valid := h0.readable && h1.readable && h2.readable && decide (b0.extractLsb' 4 4 = 0#4)
    let kind : Kind := if valid && b0.getLsbD 0 then .mark else .data
    { ident :=
        if valid then some { ordinal := dataLanes h1.value ++ dataLanes h2.value, copy := b0.extractLsb' 1 3 } else none
      kind := kind
      length := length
      long := long
      bad := !valid
      malformed := (match kind with | .mark => decide (frames ≠ 0) | .data => decide (frames = 0))
      unreadable := unreadable
      soft := soft }
  | _ =>
    { ident := none, kind := .data, length := length, long := long, bad := true, malformed := decide (frames = 0),
      unreadable := unreadable, soft := soft }

end Sys2Proof.Machine
end

