-- ==== Sys2Proof/Machine/Verify.lean ====
section
/-! DEFINITION. The Verify Unit: the window, the judging of read-back frames, the verdicts and the notices (Chapter 6). -/

namespace Sys2Proof.Machine

/-- The first failure recorded fixes the kind (R105). -/
def firstFailure (old : Option FailureKind) (new : Option FailureKind) : Option FailureKind :=
  match old with
  | some k => some k
  | none => new

/-- Records a failure against the copy or, in TRAILER CHECK, against the trailer (R105, R112). -/
def VerifyUnit.record (v : VerifyUnit) (k : Option FailureKind) : VerifyUnit :=
  match v.state with
  | .trailerCheck => { v with trailerFailure := firstFailure v.trailerFailure k }
  | _ => { v with copyFailure := firstFailure v.copyFailure k }

/-- The counts and the reported kind when the OC begins a command (R107, R111). -/
def VerifyUnit.begin (v : VerifyUnit) : VerifyUnit :=
  { v with corrected := 0, marginal := 0, skew := 0, reported := none }

/-- An entry handed over by the Frame Writer: header entry 0 takes IDLE to LISTENING with the copy's records fresh, trailer entry
0 takes IDLE to TRAILER CHECK; a full window refuses the entry and records OVERFLOW (R102, R103, R116). -/
def VerifyUnit.push (v : VerifyUnit) (e : WindowEntry) : VerifyUnit :=
  let v :=
    if e.role = .header ∧ e.index = 0 then
      { v with
        state := (match v.state with | .idle => .listening | st => st)
        copyFailure := none, soft := false, blankNotice := false }
    else if e.role = .trailer ∧ e.index = 0 then
      { v with state := (match v.state with | .idle => .trailerCheck | st => st), trailerFailure := none }
    else v
  if v.window.length < Config.windowSize then { v with window := v.window ++ [e] }
  else { v with copyFailure := firstFailure v.copyFailure (some .overflow) }

/-- Table 6-2: the failure a read-back frame records against an entry, none for a match. An LCF is compared by its strong
value and its status is not used (R104, R105). -/
def judge (strict : Bool) (f : ReadFrame) (e : WindowEntry) : Option FailureKind :=
  match e.role with
  | .lcf =>
    if f.strong ≠ e.value then some .value
    else if strict && f.skew then some .skew
    else none
  | _ =>
    if f.status = .unreadable then some .unreadable
    else if f.value ≠ e.value then some .value
    else if strict && decide (f.status = .marginal) then some .marginal
    else if strict && f.skew then some .skew
    else none

/-- A count that stays at its limit. -/
def countUpTo (limit n : Nat) (b : Bool) : Nat := if b && decide (n < limit) then n + 1 else n

/-- The frame counts and the soft mark for a frame judged against an entry (R107). -/
def VerifyUnit.tally (v : VerifyUnit) (f : ReadFrame) (e : WindowEntry) : VerifyUnit :=
  let counted := decide (e.role ≠ .lcf)
  let soft := decide (f.status = .corrected) || decide (f.status = .marginal)
  { v with
    corrected := countUpTo Config.frameCountLimit v.corrected (counted && decide (f.status = .corrected))
    marginal := countUpTo Config.frameCountLimit v.marginal (counted && decide (f.status = .marginal))
    skew := countUpTo Config.skewCountLimit v.skew f.skew
    soft :=
      v.soft ||
        (decide (v.state = .listening) && (decide (e.role = .header) || decide (e.role = .data)) && soft) }

/-- The verdict on the copy: the window emptied, IDLE, and on a fail the copy's first failure reported (R111). -/
def VerifyUnit.verdict (v : VerifyUnit) : VerifyUnit × Verdict :=
  ({ v with
     state := .idle, window := [], blankNotice := false,
     reported := (match v.copyFailure with | some k => some k | none => v.reported) },
   .copy v.copyFailure.isNone v.soft)

/-- The trailer verdict (R112 to R114). -/
def VerifyUnit.trailerVerdict (v : VerifyUnit) : VerifyUnit × Verdict :=
  ({ v with
     state := .idle, window := [],
     reported := (match v.trailerFailure with | some k => some k | none => v.reported) },
   .trailer v.trailerFailure.isNone)

/-- The removal of this entry gives a verdict: the window stands empty and, LISTENING, the entry was the LCF or the blank-LCF
notice has been taken; in TRAILER CHECK, the entry was the second trailer frame (R108, R109, R112). -/
def VerifyUnit.afterRemoval (v : VerifyUnit) (e : WindowEntry) : VerifyUnit × Option Verdict :=
  if v.window.isEmpty then
    match v.state with
    | .listening =>
      if e.role = .lcf ∨ v.blankNotice = true then ((v.verdict).1, some (v.verdict).2) else (v, none)
    | .trailerCheck =>
      if e.role = .trailer ∧ e.index = 1 then ((v.trailerVerdict).1, some (v.trailerVerdict).2) else (v, none)
    | .idle => (v, none)
  else (v, none)

/-- A read-back frame: disregarded in IDLE; EXTRA with the window empty; else judged against the oldest entry and no other
(R103, R104, R106). -/
def VerifyUnit.frame (v : VerifyUnit) (strict : Bool) (f : ReadFrame) : VerifyUnit × Option Verdict :=
  match v.state with
  | .idle => (v, none)
  | _ =>
    match v.window with
    | [] => (v.record (some .extra), none)
    | e :: rest => ((({ v with window := rest }).record (judge strict f e)).tally f e).afterRemoval e

/-- The blank-LCF notice (R109); an IDLE Verify Unit disregards it. -/
def VerifyUnit.blankLcf (v : VerifyUnit) : VerifyUnit × Option Verdict :=
  match v.state with
  | .listening =>
    let v := { v with blankNotice := true }
    if v.window.isEmpty then ((v.verdict).1, some (v.verdict).2) else (v, none)
  | _ => (v, none)

/-- A deadline taken: DROPPED if entries remain, then the verdict (R110, R113). -/
def VerifyUnit.deadline (v : VerifyUnit) : VerifyUnit × Option Verdict :=
  let v' := if v.window.isEmpty then v else v.record (some .dropped)
  match v.state with
  | .idle => (v, none)
  | .listening => ((v'.verdict).1, some (v'.verdict).2)
  | .trailerCheck => ((v'.trailerVerdict).1, some (v'.trailerVerdict).2)

/-- The end-of-write notice: emptied, IDLE, no verdict; the first failure recorded becomes the reported kind (R118). -/
def VerifyUnit.endOfWrite (v : VerifyUnit) : VerifyUnit :=
  match v.state with
  | .idle => v
  | .listening =>
    { v with
      state := .idle, window := [], blankNotice := false,
      reported := (match v.copyFailure with | some k => some k | none => v.reported) }
  | .trailerCheck =>
    { v with
      state := .idle, window := [],
      reported := (match v.trailerFailure with | some k => some k | none => v.reported) }

/-- The skip notice: as the end-of-write notice, in LISTENING alone (R117). -/
def VerifyUnit.skipNotice (v : VerifyUnit) : VerifyUnit :=
  match v.state with
  | .listening => v.endOfWrite
  | _ => v

end Sys2Proof.Machine
end

