-- ==== Sys2Proof/Machine/Ops.lean ====
section
/-! DEFINITION. The operations the commands share, over the whole state: causes and the catalogue, the posting of completions, the
stop, release and the four modes, the write gate and copies, the effect of a control reset, and the endings of an operation. -/

namespace Sys2Proof.Machine

/-! ### Units, lines, causes (Chapter 2) -/

def State.link (s : State) (u : UnitId) : UnitLink := s.tlc.units.get u

def State.setLink (s : State) (u : UnitId) (l : UnitLink) : State :=
  s.setTlc { s.tlc with units := s.tlc.units.set u l }

def State.setUnitState (s : State) (u : UnitId) (st : UnitState) : State :=
  s.setLink u { s.link u with state := st }

def Lines.get (l : Lines) (k : Line) : Bool :=
  match k with
  | .present => l.present
  | .ready => l.ready
  | .loadPoint => l.loadPoint
  | .endMarker => l.endMarker
  | .endLine => l.endLine
  | .writePermit => l.writePermit
  | .rewinding => l.rewinding
  | .moving => l.moving
  | .atSpeed => l.atSpeed

def Lines.set (l : Lines) (k : Line) (b : Bool) : Lines :=
  match k with
  | .present => { l with present := b }
  | .ready => { l with ready := b }
  | .loadPoint => { l with loadPoint := b }
  | .endMarker => { l with endMarker := b }
  | .endLine => { l with endLine := b }
  | .writePermit => { l with writePermit := b }
  | .rewinding => { l with rewinding := b }
  | .moving => { l with moving := b }
  | .atSpeed => { l with atSpeed := b }

/-- The live copy of one line of one unit (R20). -/
def State.setLine (s : State) (u : UnitId) (k : Line) (b : Bool) : State :=
  s.setLink u { s.link u with lines := (s.link u).lines.set k b }

/-- The state a unit's lines give when it is taken afresh (R42). -/
def Lines.unitState (l : Lines) : UnitState :=
  if l.present = false then .absent
  else if l.ready = false then .notReady
  else if l.rewinding then .rewinding
  else .idle

/-! ### The catalogue (Chapter 7) -/

def State.catalogue (s : State) (u : UnitId) : Catalogue := s.rc.catalogues.get u
def State.nextOrdinal (s : State) (u : UnitId) : Word := s.rc.nextOrdinals.get u

def State.setCatalogue (s : State) (u : UnitId) (c : Catalogue) : State :=
  s.setRc { s.rc with catalogues := s.rc.catalogues.set u c }

def State.setNextOrdinal (s : State) (u : UnitId) (w : Word) : State :=
  s.setRc { s.rc with nextOrdinals := s.rc.nextOrdinals.set u w }

/-- A record passed forward, placed only for the unit selected as the report is taken (R126 to R128, R137). -/
def placeForward (u : UnitId) (r : RecordInfo) (passedMark : Bool) (s : State) : State :=
  if s.tlc.selected = some u then
    (s.setCatalogue u ((s.catalogue u).passForward r)).setNextOrdinal u
      (nextAfterForward (s.nextOrdinal u) r passedMark)
  else s

/-- A record passed in reverse (R129 to R131, R137). -/
def placeReverse (u : UnitId) (r : RecordInfo) (s : State) : State :=
  if s.tlc.selected = some u then
    (s.setCatalogue u ((s.catalogue u).passReverse r)).setNextOrdinal u (nextAfterReverse (s.nextOrdinal u) r)
  else s

/-- The medium of the unit is at its load point (R132). -/
def takeLoadPoint (u : UnitId) (s : State) : State := s.setCatalogue u (s.catalogue u).atLoadPoint

/-- The truncation before a write (R133). -/
def truncateCatalogue (u : UnitId) (s : State) : State := s.setCatalogue u (s.catalogue u).truncate

/-- The catalogue becomes UNKNOWN; the next ordinal is kept (R136). -/
def invalidate (u : UnitId) (s : State) : State := s.setCatalogue u Catalogue.unknown

/-- Raises a cause and hands it to the RC for the catalogue effect of Table 2-5 (R37, R38). -/
def raiseCause (k : Cause) (u : UnitId) (s : State) : State :=
  let s := s.setLink u { s.link u with causes := (s.link u).causes.raise k }
  match k with
  | .becameReady => s.setCatalogue u Catalogue.anchoredEmpty
  | .rewound => (s.setCatalogue u Catalogue.anchoredEmpty).setNextOrdinal u 0
  | .lostReady | .unloaded | .stopFault => invalidate u s
  | .permitChanged => s

/-! ### Posting (Chapter 10) -/

/-- A completion is placed, the command's buffer returns to OPEN and the stream queue is dealt with, all in one step (R170, R178,
R179, R185). -/
def post (c : Command) (r : Completion) (s : State) : State :=
  let b := s.bu.atPosting c s.cu.queue
  let r := if b.2 then { r with qualifiers := { r.qualifiers with staleDiscarded := true } } else r
  (s.setBu b.1).setCmp (s.cmp.place r)

/-- The data frames of the last copy, 0 when no copy began (R154). -/
def copyBytes (a : Active) (s : State) : Nat :=
  match a.ordinal, s.fw.account with
  | some _, some acct => acct.dataFrames
  | _, _ => 0

/-- The completion of an active operation, its fields filled as Table R154 gives and its qualifiers as R184 gives. VOIDS SKIPPED is
carried by a READ that posts after a skip, VOID LIMIT among its outcomes (R159, R184, log 24), ABORT LATE beside DONE and TRAILER
FAILED (R196, R202). -/
def completionOf (a : Active) (o : CmdOutcome) (s : State) : Completion :=
  let code := a.cmd.code
  let corrected := if code.writesCopies then s.vu.corrected else if code.receives then s.fr.account.corrected else 0
  let marginal := if code.writesCopies then s.vu.marginal else if code.receives then s.fr.account.marginal else 0
  let skew := if code.writesCopies then s.vu.skew else if code.receives then s.fr.account.skew else 0
  { tag := a.cmd.tag
    code := code
    unit := a.cmd.unit
    outcome := o
    copies := if code.writesCopies then a.copyCounter else 0
    ordinal := if code.writesCopies || code.readClass then a.ordinal else none
    qualifiers :=
      { a.qualifiers with
        corrected := decide (0 < corrected)
        marginal := decide (0 < marginal)
        skew := decide (0 < skew)
        voidsSkipped := decide (code = .read) && decide (0 < s.fr.account.voids)
        fragments := code.readClass && s.fr.account.fragments
        abortLate := a.abortLate && (decide (o = .done) || decide (o = .trailerFailed)) }
    failure := if code.writeClass then s.vu.reported else none
    byteCount :=
      if code = .write ∨ code = .writeStream then copyBytes a s else if code.receives then a.bytes else 0
    passed := if code.readClass then a.passed else 0
    corrected := corrected
    marginal := marginal
    skew := skew }

/-- What the FR keeps of a command once its completion is posted: no run is eligible for it, no open record is its own, and the
search count stops (R56, R87, R17). Its weak start setting and its manner stay (R81). -/
def FrameReader.afterPosting (fr : FrameReader) : FrameReader :=
  { fr with
    run := fr.run.map fun r => { r with eligible := false }
    record := fr.record.map fun r => { r with received := false }
    search := none }

/-- The conditions that a record open at the posting has from its header run, as qualifiers of the READ or READ STREAM that
receives it: LENGTH EXCESS, OVERRUN and LONG RECORD. What its close would have settled, UNSEALED and DATA CHECK, it has not (R87,
R90, R93, R159, R184, log 39). Nor has it given the command its ordinal or its count, which come with its close (DESIGN CHOICE,
log 46). -/
def Active.withOpenRecord (a : Active) (fr : FrameReader) : Active :=
  match fr.record with
  | some o =>
    if o.received then
      { a with
        qualifiers :=
          { a.qualifiers with
            overrun := a.qualifiers.overrun || o.overrun
            lengthExcess := a.qualifiers.lengthExcess || o.lengthExcess
            longRecord := a.qualifiers.longRecord || (o.header.map Header.long).getD false } }
    else a
  | none => a

/-- The OC posts the completion of the active operation, with what its open record gives it. -/
def postActive (a : Active) (o : CmdOutcome) (s : State) : State :=
  let s := post a.cmd (completionOf (a.withOpenRecord s.fr) o s) s
  s.setFr s.fr.afterPosting

/-! ### The Frame Reader at a break and at a close (Chapter 5) -/

/-- A command is in force: an operation is active. -/
def State.inForce (s : State) : Bool := s.active.isSome

/-- A count raised by n that stays at its limit. -/
def raiseUpTo (limit n k : Nat) : Nat := min (n + k) limit

/-- A run's tallies join the command account, in check manner and with a command in force (R99). -/
def FrameReader.addTallies (fr : FrameReader) (t : Tallies) (inForce : Bool) : FrameReader :=
  if inForce && decide (fr.manner = .check) then
    { fr with
      account :=
        { fr.account with
          corrected := raiseUpTo Config.frameCountLimit fr.account.corrected t.corrected
          marginal := raiseUpTo Config.frameCountLimit fr.account.marginal t.marginal
          skew := raiseUpTo Config.skewCountLimit fr.account.skew t.skewed } }
  else fr

/-- The FRAGMENTS mark, with a command in force (R92). -/
def FrameReader.markFragments (fr : FrameReader) (inForce : Bool) : FrameReader :=
  if inForce then { fr with account := { fr.account with fragments := true } } else fr

/-- Only the skew mark of an LCF is counted (R86, R99). -/
def Tallies.skewOnly (t : Tallies) : Tallies := { Tallies.zero with skewed := t.skewed }

/-- The search count runs while a read-class operation at speed has no record open (R17, R48); in the stop and the reverse ramp of TURN
it stands (DESIGN CHOICE, log 48). -/
def State.searchRuns (s : State) : Bool :=
  match s.oc with
  | .active a =>
    match a.phase with
    | .search | .record | .turnPass => true
    | _ => false
  | _ => false

/-- The condition of a record at its close, and whether it has DATA CHECK (R93). -/
def closeCondition (manner : Manner) (acc : Lanes) (h : Header) : Condition × Bool :=
  match manner with
  | .pass => (.unchecked, false)
  | .check =>
    if decide (acc ≠ 0) || h.unreadable || h.bad || h.malformed then (.damaged, true)
    else if h.soft then (.corrected, false)
    else (.clean, false)

/-- A record closes: it is reported to the RC, the parse returns to GAP, and the report for the OC is made (R93, R94). -/
def closeRecord (r : OpenRecord) (h : Header) (t : Trailer) (reverse : Bool) (s : State) : State × ParseReport :=
  let cc := closeCondition s.fr.manner s.fr.acc h
  let info : RecordInfo :=
    { ident := h.ident, kind := h.kind, length := h.length, long := h.long, trailer := t, condition := cc.1 }
  let placed :=
    match s.tlc.selected with
    | some u => if reverse then placeReverse u info s else placeForward u info false s
    | none => s
  let s :=
    placed.setFr
      { placed.fr with
        record := none, closeCount := 0, search := if placed.searchRuns then some 0 else none }
  (s, .closed
    { ident := h.ident, kind := h.kind, trailer := t, received := r.received, dataCheck := cc.2,
      lengthExcess := r.lengthExcess, overrun := r.overrun, long := h.long })

/-- The open reverse record's runs become fragments (R89, R92). -/
def FrameReader.loseRecord (fr : FrameReader) (inForce searchRuns : Bool) : FrameReader :=
  { fr.markFragments inForce with
    record := none, closeCount := 0, search := if searchRuns then some 0 else none }

def trailerOf : Option TrailerKind → Trailer
  | none => .none
  | some .commit => .commit
  | some .void => .void

/-- The LCF of an open record enters the accumulator at its strong value (R91). -/
def FrameReader.takeLcf (fr : FrameReader) (r : Run) (inForce : Bool) : FrameReader :=
  let strong := (r.first.head?.map ReadFrame.strong).getD 0
  { fr.addTallies r.tallies.skewOnly inForce with
    acc := fr.acc ^^^ strong
    record := fr.record.map fun o => { o with lcf := true }
    closeCount := fr.runCount }

/-- The closing half of a break going forward (R18, R88): everything a run's classification does, the opening of a new record
by a header run excepted. A header run's tallies join the account here: the run is classified before the posting that the close of an
older record makes, whose completion counts them (R99; DEDUCED, log 16). -/
def breakForward (r : Run) (s : State) : State × ParseReport :=
  match s.fr.record with
  | none =>
    match r.length with
    | 0 => (s, .quiet)
    | 1 | 2 => (s.setFr (s.fr.markFragments s.inForce), .quiet)
    | _ => (s.setFr (s.fr.addTallies r.tallies s.inForce), .quiet)
  | some o =>
    let h := o.header.getD (r.decodeHeader false)
    let counted := s.setFr (s.fr.addTallies r.tallies s.inForce)
    match r.length with
    | 0 => (s, .quiet)
    | 1 =>
      if o.lcf then (s.setFr (s.fr.markFragments s.inForce), .quiet) else (s.setFr (s.fr.takeLcf r s.inForce), .quiet)
    | 2 => closeRecord o h (trailerOf (r.trailerPattern false)) false counted
    | _ => closeRecord o h .none false counted

/-- A break in reverse (R19, R89). -/
def breakReverse (r : Run) (s : State) : State × ParseReport :=
  let fr := s.fr
  match r.length with
  | 0 => (s, .quiet)
  | 1 =>
    match fr.record with
    | none =>
      let strong := (r.first.head?.map ReadFrame.strong).getD 0
      (s.setFr
        { fr.addTallies r.tallies.skewOnly s.inForce with
          record :=
            some { header := none, lcf := true, trailer := none, received := false, lengthExcess := false,
                   overrun := false }
          acc := strong, closeCount := fr.runCount, search := none }, .quiet)
    | some o =>
      if o.lcf then (s.setFr (fr.markFragments s.inForce), .quiet) else (s.setFr (fr.takeLcf r s.inForce), .quiet)
  | 2 =>
    match r.trailerPattern true with
    | none => (s.setFr (fr.markFragments s.inForce), .quiet)
    | some k =>
      let lost := fr.record.isSome
      let fr' := if lost then fr.markFragments s.inForce else fr
      (s.setFr
        { fr'.addTallies r.tallies s.inForce with
          record :=
            some { header := none, lcf := false, trailer := some k, received := false, lengthExcess := false,
                   overrun := false }
          acc := 0, closeCount := fr.runCount, search := none }, if lost then .lost else .quiet)
  | _ =>
    let h := r.decodeHeader true
    let fr' := fr.addTallies r.tallies s.inForce
    match fr.record with
    | none =>
      closeRecord
        { header := some h, lcf := false, trailer := none, received := false, lengthExcess := false, overrun := false }
        h .none true (s.setFr { fr' with acc := r.xor })
    | some o => closeRecord o h (trailerOf o.trailer) true (s.setFr { fr' with acc := fr.acc ^^^ r.xor })

/-- The closing half of a break, in the direction of the parse. The run is then at an end, but a forward header run stays in
progress until the opening half has opened its record. -/
def breakClose (s : State) : State × ParseReport :=
  match s.fr.run, s.fr.mode with
  | some r, .parse false =>
    if 3 ≤ r.length then breakForward r s else breakForward r (s.setFr { s.fr with run := none })
  | some r, .parse true => breakReverse r (s.setFr { s.fr with run := none })
  | _, _ => (s, .quiet)

/-- The opening half of a break: forward, a header run opens a new record with the run's exclusive-or (R88, R87); the run is
then at an end. -/
def breakOpen (s : State) : State :=
  match s.fr.run, s.fr.mode with
  | some r, .parse false =>
    if 3 ≤ r.length then
      s.setFr
        { s.fr with
          run := none
          record :=
            some { header := some (r.decodeHeader false), lcf := false, trailer := none, received := r.eligible,
                   lengthExcess := r.lengthExcess, overrun := r.overrun }
          acc := r.xor, closeCount := s.fr.runCount, search := none }
    else s.setFr { s.fr with run := none }
  | _, _ => s.setFr { s.fr with run := none }

/-- The FR leaves its mode with nothing open: frame, run, record and counts gone (R95, R96, R100). -/
def FrameReader.leave (fr : FrameReader) (mode : ReaderMode) : FrameReader :=
  { fr with
    mode := mode, frame := none, run := none, runCount := 0, record := none, acc := 0, closeCount := 0, search := none }

/-! ### What a close leaves with the active command (R97, R154, R174, R184) -/

/-- The record-level conditions of a received record as qualifiers (R97, R184). -/
def recordQualifiers (r : CloseReport) (q : Qualifiers) : Qualifiers :=
  if r.received then
    { q with
      unsealed := q.unsealed || decide (r.trailer = .none)
      dataCheck := q.dataCheck || r.dataCheck
      overrun := q.overrun || r.overrun
      lengthExcess := q.lengthExcess || r.lengthExcess }
  else q

/-- A count of records passed, which stops at 4095 (R154). -/
def raisePassed (n : Nat) : Nat := min (n + 1) Config.passedLimit

/-- The part of a close that counts for the command whatever it ends in: records passed, marks, the ordinal of the last record
passed and LONG RECORD (R43, R154, R161 to R165). A record closed within TURN gives its ordinal and is not counted (log 19). A record
still open at the posting gives neither ordinal nor count, though the byte count takes in its bytes (DESIGN CHOICE, log 46). -/
def creditClose (a : Active) (r : CloseReport) : Active :=
  let a := if r.long then { a with qualifiers := { a.qualifiers with longRecord := true } } else a
  let ordinal := r.ident.map Ident.ordinal
  match a.cmd.code with
  | .read | .readStream => if r.received then { a with passed := raisePassed a.passed, ordinal := ordinal } else a
  | .space | .spaceMarks =>
    let a := { a with ordinal := ordinal }
    if r.trailer = .void then a
    else
      { a with
        passed := raisePassed a.passed
        marks := if r.kind = .mark then a.marks + 1 else a.marks }
  | .locate =>
    match a.phase with
    | .turnStop | .turnRamp | .turnPass => { a with ordinal := ordinal }
    | _ => { a with passed := raisePassed a.passed, ordinal := ordinal }
  | _ => a

/-- The bytes of a received void record of a staged READ are discarded: fill and byte count 0 (R98, R174). With a CONTROL RESET
pending the close is not applied to the command, and the fill stays (R199, log 36). -/
def discardVoid (a : Active) (r : CloseReport) (s : State) : Active × State :=
  if a.cmd.code = .read ∧ r.received = true ∧ r.trailer = .void ∧ s.hw.resetPending = false then
    ({ a with bytes := 0 }, s.setBu (s.bu.setFill a.cmd.buffer 0))
  else (a, s)

/-- The receiving flag clears at the close of the received record (R97). -/
def stopReceiving (s : State) : State := s.setFr { s.fr with account := { s.fr.account with receiving := false } }

/-- A close forced by an event of R95: its conditions go beneath the terminating outcome, the receiving flag clears, and nothing is
posted here. -/
def noteClose (p : ParseReport) (s : State) : State :=
  match p, s.oc with
  | .closed r, .active a =>
    let d := discardVoid (creditClose a r) r s
    let s := if r.received then stopReceiving d.2 else d.2
    s.setOc (.active { d.1 with qualifiers := recordQualifiers r d.1.qualifiers })
  | _, _ => s

/-- The next frame of the run has a byte at COUNT or beyond for the command in force (R87). -/
def State.passesCount (s : State) (r : Run) : Bool :=
  match s.oc with
  | .active a => r.eligible && decide (3 ≤ r.length) && decide (a.cmd.count ≤ r.length - 3)
  | _ => false

/-- An event of R95 ends the run in progress with the frame that is still being assembled, which joined it at its opening (R14). The
frame has the value of the pulses taken so far, its byte, which its close would hand on, is not handed on, and its assembly goes on to
its three-quarter point, with nothing more to give (DESIGN CHOICE, log 21). -/
def handOpenFrame (s : State) : State :=
  match s.fr.frame, s.fr.run, s.fr.mode with
  | some x, some r, .parse _ =>
    if x.handed then s
    else
      s.setFr
        { s.fr with
          frame := some { x with handed := true }
          run := some { r.join (selectFrame x) with lengthExcess := r.lengthExcess || s.passesCount r } }
  | _, _, _ => s

/-- The FR at stop complete or at a release: the run in progress is ended and classified, a close it makes is reported to the
operation still active (TURN, log 20), and the open record is abandoned (R95). -/
def readerAtStop (mode : ReaderMode) (s : State) : State :=
  let b := breakClose (handOpenFrame s)
  let s := breakOpen (noteClose b.2 b.1)
  s.setFr (s.fr.leave mode)

/-! ### The stop, the release and the modes of the OC (R23, R27, R44) -/

/-- The OC in IDLE: no active record, the Phase Timer zero and stopped (R44, R45). -/
def enterIdle (s : State) : State := (s.setOc .idle).setTimer .stopped

/-- The selection is emptied, no timer runs for it, and the gate line is driven off (R23). -/
def releaseUnit (s : State) : State :=
  let s :=
    s.setTlc { s.tlc with selected := none, atSpeedTimer := false, acceptanceTimer := false, stopTimer := false }
  s.setFw { s.fw with gate := false }

/-- A motion request sent to the selected unit in IDLE makes it RAMPING and starts its timer (R25, R31). -/
def sendMotion (u : UnitId) (r : MotionRequest) (s : State) : State :=
  let s := s.setUnitState u .ramping
  let accept := decide (r = .rewind) || decide (r = .unload)
  s.setTlc { s.tlc with request := some r, atSpeedTimer := !accept, acceptanceTimer := accept, stopTimer := false }

/-- STOP sent to the selected unit (R27): a moving one is STOPPING with the stop timer running, one at rest is IDLE with stop
complete at once; to a unit not under way nothing is sent. -/
def sendStop (s : State) : State :=
  match s.tlc.selected with
  | none => s
  | some u =>
    match (s.link u).state with
    | .ramping | .runningForward | .runningReverse =>
      let moving := (s.link u).lines.moving
      let s := s.setUnitState u (if moving then .stopping else .idle)
      s.setTlc
        { s.tlc with request := some .stop, atSpeedTimer := false, acceptanceTimer := false, stopTimer := moving }
    | _ => s

/-- The stop of the selected unit is still running. -/
def State.stopRunning (s : State) : Bool :=
  match s.tlc.selected with
  | none => false
  | some u => decide ((s.link u).state = .stopping)

/-- Stop complete, outside TURN: the reader is done, the gate is OFF, the selection released, the OC IDLE (R27, R57, R64, R95). -/
def stopDone (s : State) : State := enterIdle (releaseUnit (readerAtStop .idle s))

/-- The Phase Timer as the operation or its FINISH ends in a stop: no distance and no deadline is left to reach, and the phase count
goes on as it stands, since STOPPING is a mode and no phase (R44, R45, log 34). A count that is stopped stays stopped. -/
def PhaseTimer.atStop (t : PhaseTimer) : PhaseTimer := { t with target := none, deadline := none }

/-- The OC enters STOPPING; a stop already complete is acted on at once (R59). -/
def enterStopping (s : State) : State :=
  let s := (s.setOc .stopping).setTimer s.timer.atStop
  if s.stopRunning then s else stopDone s

/-- The OC enters FINISH with its target (R56). -/
def enterFinish (a : Active) (distance : Nat) (s : State) : State :=
  (s.setOc (.finishing { unit := a.cmd.unit, writeClass := a.cmd.code.writeClass, reverse := a.reverse })).setTimer
    { phase := some 0, target := some distance, deadline := none }

/-! ### Copies: their account and their description (R77, R78) -/

def State.setAccount (s : State) (acct : CopyAccount) : State := s.setFw { s.fw with account := some acct }

/-- A copy is in progress (R58): its account has not ended. -/
def State.copyInProgress (s : State) : Bool :=
  match s.fw.account with
  | some acct => decide (acct.ended = .inProgress)
  | none => false

/-- The condition of a written copy, from the VU's account of it (R77). -/
def writtenCondition (verdict : Option (Bool × Bool)) : Condition :=
  match verdict with
  | none => .unchecked
  | some (true, false) => .clean
  | some (true, true) => .corrected
  | some (false, _) => .damaged

/-- The trailer a copy is reported with (R77). -/
def reportedTrailer : CopyEnding → Trailer
  | .sealed => .commit
  | .void => .void
  | _ => .none

/-- The description of a copy (R77). -/
def describeCopy (acct : CopyAccount) (verdict : Option (Bool × Bool)) : RecordInfo :=
  { ident := some { ordinal := acct.ordinal, copy := BitVec.ofNat 3 acct.copy }
    kind := acct.kind
    length := acct.dataFrames
    long := false
    trailer := reportedTrailer acct.ended
    condition := writtenCondition verdict }

/-- The copy ends and is reported to the RC as a record written forward (R78, R134). -/
def endCopy (a : Active) (ending : CopyEnding) (s : State) : State :=
  match s.fw.account with
  | none => s
  | some acct =>
    let acct := { acct with ended := ending }
    placeForward a.cmd.unit (describeCopy acct a.verdict) acct.passed (s.setAccount acct)

/-- The gate drops at once (R65): the watch IDLE, a copy in progress ended unsealed, the VU told; the copy is not yet
described. -/
def dropGate (s : State) : State :=
  if s.fw.gate then
    let inProgress := s.copyInProgress
    let s := s.setFw { s.fw with gate := false, watch := none }
    if inProgress then
      let s :=
        match s.fw.account with
        | some acct => s.setAccount { acct with ended := .unsealed }
        | none => s
      s.setVu s.vu.endOfWrite
    else s
  else s

/-- The gate drops and a copy in progress is passed to the RC unsealed, before the posting (R58, R78, R134). Between the two frames of a
commit trailer the Verify Unit is in TRAILER CHECK, for which R118 says that the passed mark is set; Table 4-2 of R78 has it clear with
the first frame alone written, and the model takes Table 4-2 (DESIGN CHOICE, log 45). -/
def dropGateAndReport (s : State) : State :=
  let inProgress := s.fw.gate && s.copyInProgress
  let s := dropGate s
  match s.oc with
  | .active a => if inProgress then endCopy a .unsealed s else s
  | _ => s

/-! ### The effect of a control reset (R199, R200) -/

/-- A copy whose commit trailer stands and which has no trailer verdict is described before the reset clears the account (R80,
R199). -/
def describeCommitted (s : State) : State :=
  match s.oc with
  | .active a => if a.phase = .trailerCheck ∧ s.copyInProgress = true then endCopy a .unsealed s else s
  | _ => s

/-- The blocks' own parts of the effect (table of R200), the OC's and TLC's excepted. -/
def clearCommandSide (s : State) : State :=
  let s := s.setFw { s.fw with watch := none, acc := 0, account := none }
  let s := s.setFr { s.fr.afterPosting with account := .empty }
  let s := s.setVu { s.vu with
    state := .idle, window := [], copyFailure := none, trailerFailure := none, soft := false, blankNotice := false,
    reported := none, corrected := 0, marginal := 0, skew := 0 }
  let s := s.setCu { s.cu with queue := [] }
  let s := s.setBu s.bu.atControlReset
  let s := s.setCmp .reset
  s.setHw s.hw.atControlReset

/-- A control reset takes effect: every block in one step, the active record emptied with no completion, the Phase Timer's counts
zero and stopped, STOP asked (R45, R61, R200). -/
def controlResetEffect (s : State) : State :=
  enterStopping ((sendStop (clearCommandSide (describeCommitted s))).setTimer .stopped)

/-- The operation in force has reached the point at which a control reset takes effect (R199). -/
def State.resetPoint (s : State) : Bool :=
  match s.oc with
  | .active a =>
    match a.phase with
    | .headerData | .checkSpace | .lcf | .drain | .trailer _ | .record => false
    | .turnRamp | .turnPass => s.fr.record.isNone
    | _ => true
  | _ => true

/-- "At once": a pending reset whose point is reached takes effect before anything else is taken (R199, log 8). -/
def takeDueReset (s : State) : State :=
  if s.hw.resetPending && s.resetPoint then controlResetEffect s else s

/-! ### Endings of an operation -/

/-- Where the OC goes from a posting (R44). -/
inductive Ending where
  | finish (distance : Nat)
  | stop
  | idle
deriving DecidableEq, Repr

/-- The operation ends with its outcome; a pending control reset takes effect in place of the posting (R199, R200). -/
def conclude (a : Active) (o : CmdOutcome) (e : Ending) (s : State) : State :=
  if s.hw.resetPending then controlResetEffect s
  else
    let s := postActive a o s
    match e with
    | .finish n => enterFinish a n s
    | .stop => enterStopping s
    | .idle => enterIdle s

/-- The finishing distance of every posting but one at a second void trailer frame (R9). -/
def shortFinish : Ending := .finish Config.finishTicks

/-- The FR at END, loss of speed or LOAD POINT in reverse (R95): the run is ended and classified, then a record open going
forward closes unsealed, and one in reverse becomes fragments. PARSE goes on until stop complete. -/
def readerAtEvent (s : State) : State :=
  match s.fr.mode with
  | .parse reverse =>
    let b := breakClose (handOpenFrame s)
    let s := breakOpen (noteClose b.2 b.1)
    match s.fr.record with
    | none => s
    | some o =>
      if reverse then s.setFr (s.fr.loseRecord s.inForce false)
      else
        match o.header with
        | some h =>
          let b := closeRecord o h .none false s
          noteClose b.2 b.1
        | none => s.setFr (s.fr.loseRecord s.inForce false)
  | _ => s

/-- The OC on a terminating report whose STOP has been sent: an active operation posts and enters STOPPING, FINISH ends in the stop
(R58 to R60). -/
def endInStop (o : CmdOutcome) (s : State) : State :=
  match s.oc with
  | .active a => conclude a o .stop s
  | .finishing _ => enterStopping s
  | _ => s

/-- Loss of the selected unit: release at once, the gate dropped, the parse abandoned; an active operation ends TRANSPORT FAULT, with
what its open record gave it, and the OC is IDLE (R24, R34, R59, R60, R95, R159). A copy cut so is not described (R134). -/
def lossOfUnit (s : State) : State :=
  let fr := s.fr
  let s := releaseUnit (dropGate s)
  let s := s.setFr (s.fr.leave .idle)
  match s.oc with
  | .active a => conclude (a.withOpenRecord fr) .transportFault .idle s
  | .idle => s
  | _ => enterIdle s

end Sys2Proof.Machine
end

