-- ==== Sys2Proof/Machine/WriteOps.lean ====
section
/-! DEFINITION. Writing: the writing of one frame, the copies and their phases, the trailers, what the OC does on a verdict, and the
echo watch (Chapters 3, 4 and 6). -/

namespace Sys2Proof.Machine

/-! ### One frame (R66) -/

/-- The account's counts for a frame written (R66, R72). -/
def CopyAccount.count (acct : CopyAccount) (role : FrameRole) : CopyAccount :=
  match role with
  | .header => { acct with headerRun := acct.headerRun + 1 }
  | .data => { acct with headerRun := acct.headerRun + 1, dataFrames := acct.dataFrames + 1 }
  | .lcf => { acct with lcf := .written }
  | .trailer => acct

/-- The frame enters the accumulator, unless it is a trailer frame (R66). -/
def accumulate (acc v : Lanes) (role : FrameRole) : Lanes :=
  match role with
  | .trailer => acc
  | _ => acc ^^^ v

/-- A frame is written: accumulated, counted, handed to the VU when it is to be verified, and awaited by the echo watch (R66). -/
def writeFrame (v : Lanes) (role : FrameRole) (index : Nat) (verified : Bool) (s : State) : State :=
  let s :=
    s.setFw
      { s.fw with
        acc := accumulate s.fw.acc v role
        account := s.fw.account.map fun a => a.count role
        watch := some role, lanes := v, strobe := true }
  if verified then s.setVu (s.vu.push { value := v, role := role, index := index }) else s

/-! ### Phases -/

/-- The OC enters a phase: the phase count starts from zero and takes the phase's target (R45). -/
def enterPhase (a : Active) (p : Phase) (target : Option Nat) (s : State) : State :=
  (s.setOc (.active { a with phase := p })).setTimer { s.timer with phase := some 0, target := target }

/-- The source of a command's data frames (R62). -/
def sourceOf (c : Command) : CopySource :=
  match c.code with
  | .write => .buffer c.buffer
  | .writeStream => .stream
  | _ => .none

def kindOf (c : Command) : Kind :=
  match c.code with
  | .writeMark => .mark
  | _ => .data

/-- A copy begins: the ordinal is taken from the RC for copy 0, the account is filled, the accumulator zeroed and H0 written at
this tick (R49, R67). -/
def beginCopy (a : Active) (s : State) : State :=
  let ordinal := a.ordinal.getD (s.nextOrdinal a.cmd.unit)
  let a := { a with ordinal := some ordinal, verdict := none, skipped := false }
  let acct : CopyAccount :=
    { kind := kindOf a.cmd, ordinal := ordinal, copy := a.copyCounter, source := sourceOf a.cmd, planned := a.cmd.count,
      headerRun := 0, dataFrames := 0, cut := none, lcf := .pending, trailer := .none, passed := false,
      ended := .inProgress }
  let s := enterPhase a .headerData none s
  let s := s.setFw { s.fw with acc := 0, account := some acct }
  writeFrame (frameOf (headerByte acct.kind acct.copy acct.ordinal 0)) .header 0 true s

/-- The header run is at an end: the OC enters CHECK SPACE. `elapsed` counts the ticks since its last frame (R67, R70). -/
def endHeaderRun (a : Active) (elapsed : Nat) (s : State) : State :=
  let s := enterPhase a .checkSpace (some Config.checkSpacing) s
  s.setTimer { s.timer with phase := some elapsed }

/-- The header run is cut: the account marked, the VU given the skip notice (R70, R71, R76). -/
def cutRun (a : Active) (c : CutCause) (elapsed : Nat) (s : State) : State :=
  let s := s.setFw { s.fw with account := s.fw.account.map fun x => { x with cut := some c } }
  let s := s.setVu s.vu.skipNotice
  endHeaderRun { a with skipped := true } elapsed s

/-- Data frame k's byte from the copy's source, with the queue it leaves; none when the stream queue is empty (R68, R69). -/
def dataByte (src : CopySource) (k : Nat) (s : State) : Option (Byte × BufferUnit) :=
  match src with
  | .buffer b => some ((s.bu.buffer b).contents.read k, s.bu)
  | .stream =>
    match s.bu.stream with
    | [] => none
    | v :: rest => some (v, { s.bu with stream := rest })
  | .none => some (0, s.bu)

/-- The frame of the header run due at this tick: H1, H2, then the data frames; the last one ends the run (R67 to R70). -/
def writeRunFrame (a : Active) (s : State) : State :=
  match s.fw.account with
  | none => s
  | some acct =>
    let n := acct.headerRun
    let last := decide (n + 1 = 3 + acct.planned)
    if n < 3 then
      let s := writeFrame (frameOf (headerByte acct.kind acct.copy acct.ordinal n)) .header n true s
      if last then endHeaderRun a 0 s else s
    else
      match dataByte acct.source (n - 3) s with
      | none => cutRun a .underrun 1 s
      | some (v, bu) =>
        let s := writeFrame (frameOf v) .data n true (s.setBu bu)
        if last then endHeaderRun a 0 s else s

/-! ### Verdicts and trailers -/

/-- The trailer is ordered: its first frame is due at phase count 4 from the verdict (R50, R75). -/
def orderTrailer (a : Active) (k : TrailerKind) (o : CmdOutcome) (s : State) : State :=
  let s := enterPhase { a with voidOutcome := o } (.trailer k) (some Config.trailerPlacement) s
  s.setTimer { s.timer with deadline := none }

/-- The OC at the verdict on a copy: commit on a pass with no abort mark and no CONTROL RESET pending, void otherwise (R50, R196,
R199). -/
def takeCopyVerdict (pass soft : Bool) (s : State) : State :=
  match s.oc with
  | .active a =>
    let a := { a with verdict := some (pass, soft) }
    if pass && !a.abortMark && !s.hw.resetPending then orderTrailer a .commit .done s
    else orderTrailer a .void (if a.abortMark then .aborted else .verifyFailed) s
  | _ => s

/-- The OC at the trailer verdict: DONE with the copy sealed, or TRAILER FAILED with trailer none (R50, R114). -/
def takeTrailerVerdict (pass : Bool) (s : State) : State :=
  match s.oc with
  | .active a =>
    let s := endCopy a (if pass then .sealed else .trailerFailed) s
    conclude a (if pass then .done else .trailerFailed) shortFinish s
  | _ => s

/-- What the VU gives the OC. -/
def takeVerdict (v : Option Verdict) (s : State) : State :=
  match v with
  | none => s
  | some (.copy pass soft) => takeCopyVerdict pass soft s
  | some (.trailer pass) => takeTrailerVerdict pass s

/-- The void trailer of a copy whose verify was skipped, placed from the LCF place, whose count the phase count still holds; or
DRAIN (R49, R50). -/
def afterLcf (a : Active) (s : State) : State :=
  if a.skipped then
    let cut := match s.fw.account with
      | some acct => acct.cut
      | none => none
    let o : CmdOutcome := if a.abortMark || decide (cut ≠ some .underrun) then .aborted else .underrun
    (s.setOc (.active { a with phase := .trailer .void, voidOutcome := o })).setTimer
      { s.timer with target := some Config.trailerPlacement }
  else enterPhase a .drain none s

/-- The LCF has been taken, by its echo or at once when blank: the end of LCF, unless a verdict has ended it (R49, R72). -/
def lcfTaken (s : State) : State :=
  match s.oc with
  | .active a => if a.phase = .lcf then afterLcf a s else s
  | _ => s

/-- The LCF place: the deadline count starts, and the LCF is written, or left blank with a notice to the VU (R49, R72, R76). -/
def takeLcfPlace (a : Active) (s : State) : State :=
  let run := match s.fw.account with
    | some acct => acct.headerRun
    | none => 0
  let s := enterPhase a .lcf none s
  let s := s.setTimer
    { s.timer with deadline := some { count := 0, target := a.profile.headDistance + Config.deadlineMargin } }
  if s.fw.acc = 0 then
    let s := s.setFw { s.fw with account := s.fw.account.map fun x => { x with lcf := .blank } }
    let n := if a.skipped then (s.vu, none) else s.vu.blankLcf
    lcfTaken (takeVerdict n.2 (s.setVu n.1))
  else writeFrame s.fw.acc .lcf run (!a.skipped) s

/-- The first frame of the ordered trailer (R75). -/
def writeTrailerFirst (k : TrailerKind) (s : State) : State :=
  let s := s.setFw { s.fw with account := s.fw.account.map fun x => { x with trailer := .first k } }
  writeFrame (frameOf (trailerFirst k)) .trailer 0 (decide (k = .commit)) s

/-- A rewrite would follow the void trailer, no ABORT and no CONTROL RESET considered (R50, R196). -/
def Active.mayRewrite (a : Active) : Bool :=
  a.cmd.code.usesRetry && decide (a.copyCounter < a.cmd.retry) && !a.skipped && decide (a.voidOutcome = .verifyFailed)

/-- The second frame of the ordered trailer, and the end of TRAILER (R50, R75, R78, R196, R199). -/
def writeTrailerSecond (a : Active) (k : TrailerKind) (s : State) : State :=
  let s := s.setFw
    { s.fw with
      account := s.fw.account.map fun x =>
        { x with trailer := .complete k, passed := x.passed || decide (k = .commit) } }
  let s := writeFrame (frameOf (trailerSecond k)) .trailer 1 (decide (k = .commit)) s
  let gap := a.profile.headDistance + Config.finishTicks
  match k with
  | .commit =>
    let s := enterPhase a .trailerCheck none s
    let s := s.setTimer
      { s.timer with deadline := some { count := 0, target := a.profile.headDistance + Config.deadlineMargin } }
    if s.hw.resetPending then controlResetEffect s else s
  | .void =>
    let s := endCopy a .void s
    if s.hw.resetPending then controlResetEffect s
    else if a.mayRewrite then
      if a.abortMark then conclude a .aborted (.finish gap) s
      else
        let s := enterPhase a .rewriteGap (some gap) s
        s.setTimer { s.timer with deadline := none }
    else conclude a a.voidOutcome (.finish gap) s

/-! ### The echo watch (R73, R74) -/

/-- The echo of the awaited frame. -/
def takeEcho (s : State) : State :=
  match s.fw.watch with
  | none => s
  | some role =>
    let s := s.setFw { s.fw with watch := none }
    if role = .lcf then
      lcfTaken (s.setFw { s.fw with account := s.fw.account.map fun x => { x with lcf := .echoed } })
    else s

/-- The echo deadline with the watch still AWAITING: the gate drops, the copy ends unsealed, the operation ends WRITE FAULT with
STOP sent by the OC (R74). The deadline is the first tick after the frame's (R73), and the row that stands for it acts whenever the
watch is AWAITING: its sender says that this tick has come (DESIGN CHOICE, log 42). -/
def takeEchoDeadline (s : State) : State :=
  if s.fw.watch.isSome then
    match s.oc with
    | .active _ | .finishing _ => endInStop .writeFault (sendStop (dropGateAndReport s))
    | _ => dropGateAndReport s
  else s

end Sys2Proof.Machine
end

