-- ==== Sys2Proof/Machine/ReadOps.lean ====
section
/-! DEFINITION. Reading: frames opened and closed, the delivery of bytes, the outcomes of a close for each read-class command, the
run break and the two limits (Chapters 5 and 8). -/

namespace Sys2Proof.Machine

/-! ### Opening and closing a frame -/

/-- A run whose first frame opens now is eligible: a READ or READ STREAM is in force and still receiving, and no open record is its
own (R87). -/
def State.eligibleNow (s : State) : Bool :=
  match s.oc with
  | .active a =>
    a.cmd.code.receives && s.fr.account.receiving && decide (s.fr.mode = .parse false) &&
      (match s.fr.record with | none => true | some o => !o.received)
  | _ => false

/-- The tracker counts the run from the frame's opening (R14, R85). -/
def openFrame (lane : Lane) (strong : Bool) (s : State) : State :=
  let fr := { s.fr with frame := some (openAssembly lane strong) }
  match fr.mode with
  | .parse _ =>
    s.setFr
      { fr with
        run := (match fr.run with | some r => some r | none => some (Run.start s.eligibleNow))
        runCount := 0 }
  | _ => s.setFr fr

/-- A byte of the received record goes to the command's buffer or to the stream queue; a full queue loses it and marks the
record overrun, and the command with it, which carries OVERRUN however it ends (R184); a byte at COUNT or beyond is not
handed and marks length excess (R87, R174, R179). `index` is the byte's index in the record. -/
def deliverByte (a : Active) (r : Run) (index : Nat) (v : Byte) (s : State) : State :=
  if index < a.cmd.count then
    if s.fr.account.stopped then s
    else
      match a.cmd.code with
      | .read =>
        let b := a.cmd.buffer
        (s.setBu (s.bu.setBuffer b ((s.bu.buffer b).storeRecordByte v))).setOc (.active { a with bytes := a.bytes + 1 })
      | .readStream =>
        if s.bu.stream.length < Config.streamSize then
          (s.setBu { s.bu with stream := s.bu.stream ++ [v] }).setOc (.active { a with bytes := a.bytes + 1 })
        else
          (s.setFr { s.fr with run := some { r with overrun := true } }).setOc
            (.active { a with qualifiers := { a.qualifiers with overrun := true } })
      | _ => s
  else s.setFr { s.fr with run := some { r with lengthExcess := true } }

/-- A closed frame joins the run in progress, which it has from its opening on; from the fourth frame of an eligible run on it gives
its byte (R14, R86, R87). -/
def joinRun (f : ReadFrame) (s : State) : State :=
  let r := (s.fr.run.getD (Run.start false)).join f
  let s := s.setFr { s.fr with run := some r }
  match s.oc with
  | .active a =>
    if r.eligible && decide (4 ≤ r.length) then deliverByte a r (r.length - 4) (dataLanes f.value) s else s
  | _ => s

/-- The strict verify setting of the operation's profile copy (R35). -/
def State.strictVerify (s : State) : Bool :=
  match s.oc with
  | .active a => a.profile.strict
  | _ => false

/-- The frame closes, is selected and is handed on: to the VU in READBACK, to the run tracker in PARSE (R83 to R85), unless an event of
R95 has ended its run with it (log 21). -/
def closeFrame (s : State) : State :=
  match s.fr.frame with
  | none => s
  | some a =>
    let f := selectFrame a
    let s := s.setFr { s.fr with frame := none }
    match s.fr.mode with
    | .readback =>
      let v := s.vu.frame s.strictVerify f
      takeVerdict v.2 (s.setVu v.1)
    | .parse _ => if a.handed then s else joinRun f s
    | .idle => s

/-! ### What a close means to the command (R53, R97, R98, R161 to R165, R197, R199) -/

/-- The ranked outcome of a received record that is not void (R97). -/
def rankedOutcome (r : CloseReport) : CmdOutcome :=
  if r.trailer = .none then .unsealed
  else if r.dataCheck then .dataCheck
  else if r.overrun then .overrun
  else if r.lengthExcess then .lengthExcess
  else if r.kind = .mark then .mark
  else .done

/-- A qualifier is not carried beside an outcome of the same name (R184). -/
def withoutOwnName (o : CmdOutcome) (q : Qualifiers) : Qualifiers :=
  match o with
  | .unsealed => { q with unsealed := false }
  | .dataCheck => { q with dataCheck := false }
  | .overrun => { q with overrun := false }
  | .lengthExcess => { q with lengthExcess := false }
  | _ => q

/-- A received record ends the READ or READ STREAM with this outcome, its other conditions as qualifiers (R97). -/
def concludeRead (a : Active) (r : CloseReport) (o : CmdOutcome) (s : State) : State :=
  conclude { a with qualifiers := withoutOwnName o (recordQualifiers r a.qualifiers) } o shortFinish (stopReceiving s)

/-- The close of the record a READ or READ STREAM has received (R97, R98). A skipped void leaves its DATA CHECK and LENGTH EXCESS as
qualifiers of the command, which its completion carries (R53, R97; DEDUCED, log 35). -/
def closeReceived (a : Active) (r : CloseReport) (s : State) : State :=
  if r.trailer = .void then
    if a.cmd.code = .readStream then concludeRead a r .voidRead s
    else
      let voids := s.fr.account.voids + 1
      let s := s.setFr { s.fr with account := { s.fr.account with voids := voids } }
      if voids < Config.voidLimit then s.setOc (.active { a with qualifiers := recordQualifiers r a.qualifiers })
      else concludeRead a r .voidLimit s
  else concludeRead a r (rankedOutcome r) s

/-- The close of a record in SPACE or SPACE MARKS, already credited (R161, R162). -/
def closeSpace (a : Active) (r : CloseReport) (s : State) : State :=
  if r.trailer = .void then s.setOc (.active a)
  else if a.cmd.code = .spaceMarks then
    if r.kind = .mark ∧ a.cmd.count ≤ a.marks then conclude a .done shortFinish s else s.setOc (.active a)
  else if r.kind = .mark then conclude a .mark shortFinish s
  else if a.cmd.count ≤ a.passed then conclude a .done shortFinish s
  else s.setOc (.active a)

/-- The FR begins reverse PARSE at stop complete within TURN, and the OC sends REVERSE with the selection kept (R54, R95). R95 and the
first of R81's two rows enter reverse PARSE at stop complete, R54 and the other row at the first tick of the reverse ramp; the model
takes stop complete (DESIGN CHOICE, log 43). TURN is one phase: its count goes on (R45). -/
def turnToReverse (s : State) : State :=
  let s := readerAtStop (.parse true) s
  let s := s.setFw { s.fw with gate := false }
  let s := match s.tlc.selected with
    | some u => sendMotion u .reverse s
    | none => s
  match s.oc with
  | .active a => s.setOc (.active { a with reverse := true, phase := .turnRamp })
  | _ => s

/-- TURN begins with its stop (R54); a STOP that meets the unit at rest is complete at once (R27). R17 starts the search count from zero
at the target's close, and R96 stops it on leaving PARSE; the model has it stopped from here to AT SPEED of the reverse ramp (DESIGN
CHOICE, log 48). -/
def enterTurn (a : Active) (s : State) : State :=
  let s := s.setFr { s.fr with search := none }
  let s := sendStop (enterPhase a .turnStop none s)
  if s.stopRunning then s else turnToReverse s

/-- The close of a record in LOCATE, already credited: the nth of its plan, the target of its search, or the record of TURN
(R54, R164, R165). -/
def closeLocate (a : Active) (r : CloseReport) (s : State) : State :=
  match a.phase with
  | .turnStop => s.setOc (.active a)
  | .turnRamp | .turnPass => conclude a .done shortFinish s
  | _ =>
    match a.plan with
    | some (.space n _) => if n ≤ a.passed then conclude a .done shortFinish s else s.setOc (.active a)
    | some .search =>
      if r.ident.map Ident.ordinal = some a.cmd.arg ∧ r.trailer ≠ .void then enterTurn a s
      else if a.endRisen = true ∨ a.cmd.count ≤ a.passed then conclude a .notFound shortFinish s
      else s.setOc (.active a)
    | _ => s.setOc (.active a)

/-- The OC applies a close to the active command: a pending control reset takes effect with the close not applied (R199, log 36), an
ABORT taken inside the record ends it, else the command's completion point decides (R53, R197). -/
def applyClose (r : CloseReport) (s : State) : State :=
  match s.oc with
  | .active a0 =>
    let d := discardVoid (creditClose a0 r) r s
    let a := d.1
    let s := d.2
    if s.hw.resetPending then controlResetEffect s
    else if a.abortMark then
      conclude { a with qualifiers := recordQualifiers r a.qualifiers } .aborted shortFinish
        (if r.received then stopReceiving s else s)
    else
      match a.cmd.code with
      | .read | .readStream => if r.received then closeReceived a r s else s.setOc (.active a)
      | .space | .spaceMarks => closeSpace a r s
      | .locate => closeLocate a r s
      | _ => s.setOc (.active a)
  | _ => s

/-- An open reverse record was lost to fragments: a command that was to end at its close ends here (DESIGN CHOICE, log 13). -/
def applyLoss (s : State) : State :=
  match s.oc with
  | .active a =>
    if s.hw.resetPending then controlResetEffect s
    else if a.abortMark then conclude a .aborted shortFinish s
    else s
  | _ => s

def applyReport (p : ParseReport) (s : State) : State :=
  match p with
  | .quiet => s
  | .closed r => applyClose r s
  | .lost => applyLoss s

/-- The OC is in RECORD while the FR has a record open and in SEARCH while it has none (R53); each is entered with the phase count
at zero (R45). -/
def syncPhase (s : State) : State :=
  match s.oc with
  | .active a =>
    if a.phase = .search ∧ s.fr.record.isSome = true then enterPhase a .record none s
    else if a.phase = .record ∧ s.fr.record.isSome = false then enterPhase a .search none s
    else s
  | _ => s

/-! ### The run break and the limits -/

/-- The run break is due: a run is in progress and its count has reached 2 (R14). -/
def State.runBreakDue (s : State) : Bool :=
  s.fr.run.isSome && decide (Config.runBreakTicks ≤ s.fr.runCount) &&
    (match s.fr.mode with | .parse _ => true | _ => false)

/-- The run breaks. A frame opened with the run's last count has closed by then (R83), so one still open is closed first. A record
that closes here has passed through CLOSED, and the OC through SEARCH, before the run opens another (R53, R88). -/
def takeRunBreak (s : State) : State :=
  if s.runBreakDue then
    let s := closeFrame s
    let b := breakClose s
    syncPhase (breakOpen (syncPhase (applyReport b.2 b.1)))
  else s

/-- HEADER RUN: a run has reached three frames and its break has not come (R88, R89). A frame counts from its close: R14 joins it to
the run as it opens, R86 adds it with its selected value, which it has at its close, and the model takes R86, so that the third frame
still open is not yet HEADER RUN (DESIGN CHOICE, log 44). -/
def State.headerRunOpen (s : State) : Bool :=
  match s.fr.run with
  | some r => decide (3 ≤ r.length)
  | none => false

/-- The close limit acts: the close count has reached 96, and the parse is not in HEADER RUN, where the record stays open until the
run's break (R16, R88, R89). At the tick of the 96th count itself a run break that is due there may be taken after it, as R16 says
of any run (log 37). -/
def State.closeLimitActs (s : State) : Bool :=
  decide (Config.closeLimit ≤ s.fr.closeCount) &&
    (!s.headerRunOpen || (decide (s.fr.closeCount = Config.closeLimit) && s.runBreakDue))

/-- The close limit: forward the open record closes unsealed, in reverse its runs become fragments (R16, R88, R89). -/
def takeCloseLimit (s : State) : State :=
  match s.fr.record, s.fr.mode with
  | some o, .parse reverse =>
    if s.closeLimitActs then
      match reverse, o.header with
      | false, some h =>
        let b := closeRecord o h .none false s
        syncPhase (applyReport b.2 b.1)
      | _, _ => syncPhase (applyLoss (s.setFr (s.fr.loseRecord s.inForce s.searchRuns)))
    else s
  | _, _ => s

/-- A header run whose break falls at the tick of the 4000th count goes unclassified when that tick is taken first (R17). Its last
frame has closed by then (R83). -/
def dropHeaderRun (s : State) : State :=
  if s.runBreakDue then
    let s := closeFrame s
    if s.headerRunOpen then s.setFr { s.fr with run := none } else s
  else s

/-- The operation ends BLANK (R17, R96). -/
def endSearch (s : State) : State :=
  match s.oc with
  | .active a => conclude a .blank shortFinish (s.setFr { s.fr with search := none })
  | _ => s

/-- The search limit ends the operation (R17, R96). -/
def takeSearchLimit (s : State) : State :=
  match s.fr.search with
  | some n => if s.inForce && decide (Config.searchLimit ≤ n) then endSearch (dropHeaderRun s) else s
  | none => s

end Sys2Proof.Machine
end

