-- ==== Sys2Proof/Machine/CommandOps.lean ====
section
/-! DEFINITION. The Command Unit and the course of a command: GO and its checks, the start from rest, the chain, the commands that
need no medium, the actions, and the distance tick (Chapters 3, 8 and 11). -/

namespace Sys2Proof.Machine

/-! ### GO (R146 to R148) -/

/-- The tag is carried by the active command, the held completion or a completion in the ring (R147). -/
def State.tagCarried (s : State) (t : Tag) : Bool :=
  s.cmp.carries t || (match s.oc with | .active a => decide (a.cmd.tag = t) | _ => false)

/-- The static checks of a GO, in the order of R147's table; none when every check passes. -/
def refusal (s : State) (code : Option CommandCode) : Option SubmitResult :=
  if Config.queueSize ≤ s.cu.queue.length ∨ s.tagCarried s.cu.tagCounter = true then some .queueFull
  else if s.hw.resetPending then some .resetPending
  else
    match code with
    | none => some .badCode
    | some c =>
      if countInRange s.hw c = false then some .badCount
      else if argInRange s.hw c = false then some .badArgument
      else if c.namesBuffer && (s.bu.buffer s.hw.buffer).committed then some .bufferBusy
      else none

/-- An accepted GO: queued with the counter's tag, the counter advanced, the named buffer committed (R148). -/
def accept (code : CommandCode) (s : State) : State :=
  let c := stagedCommand s.hw code s.cu.tagCounter
  let s :=
    s.setCu
      { queue := s.cu.queue ++ [c], tagCounter := s.cu.tagCounter + 1, lastTag := s.cu.tagCounter, result := .accepted }
  if code.namesBuffer then s.setBu (s.bu.commit c.buffer) else s

/-- A GO, with the command code staged (R146 to R148). -/
def takeGo (code : Option CommandCode) (s : State) : State :=
  match refusal s code, code with
  | none, some c => accept c s
  | some r, _ => s.setCu { s.cu with result := r }
  | none, none => s.setCu { s.cu with result := .badCode }

/-! ### The beginning of a command -/

/-- What the beginning of a medium command does before anything else: the Buffer Unit's start, the VU's counts and reported kind,
the FR's command account (R107, R111, R174, R178, R179, section 5.6). The Bool is STALE DISCARDED. -/
def beginCommand (c : Command) (s : State) : State × Bool :=
  let b := s.bu.atStart c
  let s := s.setBu b.1
  let s := s.setVu s.vu.begin
  (s.setFr { s.fr with account := { ReadAccount.empty with receiving := c.code.receives } }, b.2)

/-- The active operation record as it is formed (R43). -/
def formActive (c : Command) (fromRest stale : Bool) (p : Profile) : Active :=
  { cmd := c, reverse := c.reverse, profile := p, phase := .ramp, fromRest := fromRest, loadPointAtStart := false,
    ordinal := none, copyCounter := 0, plan := none, verdict := none, skipped := false, voidOutcome := .verifyFailed,
    abortMark := false, abortLate := false, endRisen := false, passed := 0, marks := 0, bytes := 0,
    qualifiers := { Qualifiers.empty with staleDiscarded := stale } }

/-- The outcome of a refused grant, by the unit's state (R22, R153). A unit under way is never met at a start, since the OC is then
not IDLE (R153); the model answers NOT READY for it (log 14). -/
def grantRefusal : UnitState → Option CmdOutcome
  | .idle => none
  | .absent => some .noTransport
  | .notReady => some .notReady
  | .rewinding | .unloading => some .unitRewinding
  | .ramping | .runningForward | .runningReverse | .stopping => some .notReady

/-- The start checks on the granted unit's lines, in the order of R46; none when the operation may leave START. `a` has its LOCATE
plan and the direction it gives. -/
def startCheck (a : Active) (l : Lines) : Option (CmdOutcome × Bool) :=
  let code := a.cmd.code
  let forwardRead := code.readClass && !a.reverse && decide (a.plan ≠ some .zero)
  if code.writeClass && !l.writePermit then some (.writeProtected, false)
  else if (code.writeClass || forwardRead) && l.endLine then some (.endOfMedium, false)
  else if code.readClass && a.reverse && l.loadPoint then some (.loadPoint, false)
  else if decide (code = .rewind) && l.loadPoint then some (.done, true)
  else if decide (a.plan = some .zero) then some (.done, false)
  else none

/-- A completion posted at start: no ordinal, zero in every count, the outcome and its qualifier (R153). It carries no END WARNING:
END MARKER is looked at on leaving START, which it never does (R47; DEDUCED, log 41). -/
def postAtStart (a : Active) (o : CmdOutcome) (atLoadPoint : Bool) (s : State) : State :=
  let r := Completion.bare a.cmd o
  let q := { a.qualifiers with atLoadPoint := atLoadPoint }
  enterIdle (post a.cmd { r with qualifiers := q } s)

/-- The plan of a LOCATE, and the direction it fixes (R54, R163). -/
def withPlan (a : Active) (s : State) : Active :=
  if a.cmd.code = .locate then
    let p := (s.catalogue a.cmd.unit).plan a.cmd.arg
    { a with plan := some p, reverse := (match p with | .space _ r => r | _ => false) }
  else a

/-- The FR's settings for a command: weak start from the profile copy, and for a read-class command its manner (R81). -/
def FrameReader.settings (fr : FrameReader) (c : Command) (p : Profile) : FrameReader :=
  { fr with
    weakStart := p.weakStart
    manner := if c.code.readClass then (if c.code.receives then .check else .pass) else fr.manner }

/-- END MARKER high at the start of a forward command: the command carries END WARNING from its start (R29, R47). -/
def noteEndMarker (a : Active) (l : Lines) : Active :=
  if (a.cmd.code.writeClass || a.cmd.code.readClass) && !a.reverse && l.endMarker then
    { a with qualifiers := { a.qualifiers with endWarning := true } }
  else a

/-- The motion request of the operation's class (R47). -/
def motionOf (a : Active) : MotionRequest :=
  if a.cmd.code.writeClass then .forwardWrite
  else if a.cmd.code = .rewind then .rewind
  else if a.cmd.code = .unload then .unload
  else if a.reverse then .reverse
  else .forward

/-- Leaving START: the load point noted and taken by the RC, the truncation, the motion request, the gate, READBACK (R47, R63, R81,
R132, R133). -/
def leaveStart (a : Active) (s : State) : State :=
  let u := a.cmd.unit
  let l := (s.link u).lines
  let moves := a.cmd.code.writeClass || a.cmd.code.readClass
  let a := noteEndMarker { a with loadPointAtStart := l.loadPoint } l
  let s := if moves && !a.reverse && l.loadPoint then takeLoadPoint u s else s
  let s := if a.cmd.code.writeClass then truncateCatalogue u s else s
  let s := sendMotion u (motionOf a) s
  let s := if a.cmd.code.writeClass then s.setFw { s.fw with gate := true } else s
  let s := if a.cmd.code.writeClass then s.setFr { s.fr with mode := .readback } else s
  enterPhase a (if moves then .ramp else .acceptance) none s

/-- START, in the one step in which the Command Unit hands the command over (R46, R47, R153, R194). -/
def startCommand (c : Command) (s : State) : State :=
  let b := beginCommand c s
  let s := b.1
  let l := s.link c.unit
  match grantRefusal l.state with
  | some o => postAtStart (formActive c true b.2 l.profile) o false s
  | none =>
    let s := s.setTlc { s.tlc with selected := some c.unit }
    let a := withPlan (formActive c true b.2 l.profile) s
    let s := s.setFr (s.fr.settings c l.profile)
    match startCheck a l.lines with
    | some (o, atLoadPoint) =>
      let s := if atLoadPoint then takeLoadPoint c.unit s else s
      releaseUnit (postAtStart a o atLoadPoint s)
    | none => leaveStart a s

/-- The Command Unit starts the head from rest: a medium command at the head, the OC IDLE, nothing held (R150); while a control
reset is pending the queue stays unstarted (R168). -/
def takeStart (s : State) : State :=
  match s.cu.queue, s.oc with
  | c :: rest, .idle =>
    if c.code.medium && s.cmp.held.isNone && !s.hw.resetPending then
      startCommand c (s.setCu { s.cu with queue := rest })
    else s
  | _, _ => s

/-- The work of a command that needs no medium (R36, R138). -/
def nonMediumWork (c : Command) (s : State) : State :=
  match c.code with
  | .setOrdinal => s.setNextOrdinal c.unit c.arg
  | .loadProfile =>
    s.setLink c.unit
      { s.link c.unit with
        profile := { headDistance := c.arg.toNat, strict := c.strict, weakStart := c.weakStart } }
  | _ => s

/-- SET ORDINAL or LOAD PROFILE at the head, the OC not ACTIVE, nothing held: carried out and posted DONE in one step (R151). -/
def takeNonMedium (s : State) : State :=
  match s.cu.queue, s.oc with
  | _, .active _ => s
  | c :: rest, _ =>
    if !c.code.medium && s.cmp.held.isNone && !s.hw.resetPending then
      let s := nonMediumWork c (s.setCu { s.cu with queue := rest })
      let r := Completion.bare c .done
      post c { r with ordinal := if c.code = .setOrdinal then some c.arg else none } s
    else s
  | [], _ => s

/-! ### The end of FINISH (R57, R152) -/

/-- The head chains onto the finishing operation (R57), the held slot excepted. -/
def chains (f : Finishing) (c : Command) : Bool :=
  c.code.medium && decide (c.code ≠ .rewind) && decide (c.code ≠ .unload) && decide (c.code ≠ .locate) &&
    decide (c.unit = f.unit) &&
    ((f.writeClass && c.code.writeClass) || (!f.writeClass && c.code.readClass && decide (c.reverse = f.reverse)))

/-- A chained command: a fresh profile copy, the selection, gate and parse inherited, the truncation reported; its work begins at
the first tick after FINISH, a read-class command goes on with the parse as it stands (R53, R57, R96, R152). -/
def chainCommand (c : Command) (s : State) : State :=
  let b := beginCommand c s
  let s := b.1
  let l := s.link c.unit
  let a := { formActive c false b.2 l.profile with loadPointAtStart := l.lines.loadPoint }
  let a := noteEndMarker a l.lines
  let s := s.setFr (s.fr.settings c l.profile)
  if c.code.writeClass then enterPhase a .chained none (truncateCatalogue c.unit s)
  else if s.fr.record.isSome then enterPhase a .record none s
  else enterPhase a .search none (s.setFr { s.fr with search := some 0 })

/-- The phase count has reached its target. -/
def PhaseTimer.due (t : PhaseTimer) : Bool :=
  match t.target, t.phase with
  | some n, some k => decide (n ≤ k)
  | _, _ => false

/-- The end of FINISH: the head is chained, or the medium is stopped (R57, R152). A non-medium head is carried out before the end by its
own row; one still at the head here stops the medium as any head that cannot be chained (DESIGN CHOICE, log 49). -/
def takeEndOfFinish (s : State) : State :=
  match s.oc with
  | .finishing f =>
    if s.timer.due then
      match s.cu.queue with
      | c :: rest =>
        if chains f c && s.cmp.held.isNone then chainCommand c (s.setCu { s.cu with queue := rest })
        else enterStopping (sendStop s)
      | [] => enterStopping (sendStop s)
    else s
  | _ => s

/-! ### Distances reached -/

/-- Runs `f` when an operation is active in this phase with its target reached. -/
def atPhaseEnd (p : Phase) (f : Active → State → State) (s : State) : State :=
  match s.oc with
  | .active a => if a.phase = p ∧ s.timer.due = true then f a s else s
  | _ => s

/-- GUARD ends and H0 is written (R10, R49). -/
def takeGuardEnd (s : State) : State := atPhaseEnd .guard beginCopy s

/-- LEADER ends: H0 is written, or the erase count begins (R11, R49, R52). -/
def takeLeaderEnd (s : State) : State :=
  atPhaseEnd .leader
    (fun a s =>
      if a.cmd.code = .eraseGap then enterPhase a .erase (some (a.cmd.count * Config.eraseUnit)) s else beginCopy a s) s

/-- CHECK SPACE ends at the LCF place (R49). -/
def takeCheckSpaceEnd (s : State) : State := atPhaseEnd .checkSpace takeLcfPlace s

/-- The first trailer frame is due (R75). -/
def takeTrailerPlacement (s : State) : State :=
  match s.oc with
  | .active a =>
    match a.phase with
    | .trailer k =>
      if s.timer.due && decide (s.fw.account.map CopyAccount.trailer = some .none) then writeTrailerFirst k s else s
    | _ => s
  | _ => s

/-- REWRITE GAP ends: the copy counter rises and H0 of the next copy is written (R51). -/
def takeRewriteGapEnd (s : State) : State :=
  atPhaseEnd .rewriteGap (fun a s => beginCopy { a with copyCounter := a.copyCounter + 1 } s) s

/-- The erase count is reached: DONE is posted (R52). -/
def takeEraseEnd (s : State) : State := atPhaseEnd .erase (fun a s => conclude a .done shortFinish s) s

/-- The deadline count has reached its target. -/
def State.deadlineDue (s : State) : Bool :=
  match s.timer.deadline with
  | some d => decide (d.target ≤ d.count)
  | none => false

/-- A deadline is reported to the VU, which gives the verdict of the state it is in (R110, R113). -/
def takeDeadline (st : VerifyState) (s : State) : State :=
  if s.deadlineDue && decide (s.vu.state = st) then
    let v := s.vu.deadline
    takeVerdict v.2 ((s.setVu v.1).setTimer { s.timer with deadline := none })
  else s

/-! ### The distance tick (R45) -/

/-- A frame still open a whole tick after its opening has passed its three-quarter point (R83). -/
def closeOverdueFrame (s : State) : State :=
  match s.fr.frame with
  | some a => if 1 ≤ a.age then closeFrame s else s
  | none => s

/-- Every event whose distance was reached at an earlier tick and which has not been taken is taken now (log 9). -/
def settle (s : State) : State :=
  let s := takeRunBreak (closeOverdueFrame s)
  let s := takeSearchLimit (takeCloseLimit s)
  let s := takeDeadline .trailerCheck (takeDeadline .listening s)
  let s := takeLeaderEnd (takeGuardEnd s)
  let s := takeTrailerPlacement (takeCheckSpaceEnd s)
  let s := takeEraseEnd (takeRewriteGapEnd s)
  takeEndOfFinish s

/-- The FR enters PARSE at the first tick of the RAMP of a read-class operation (R81). -/
def enterParse (s : State) : State :=
  match s.oc with
  | .active a =>
    if a.phase = .ramp ∧ a.cmd.code.readClass = true ∧ s.fr.mode = .idle then
      s.setFr { s.fr with mode := .parse a.reverse }
    else s
  | _ => s

/-- One tick of the Phase Timer's two counts; one that is stopped stays stopped (R45). -/
def PhaseTimer.tick (t : PhaseTimer) : PhaseTimer :=
  { t with phase := t.phase.map (· + 1), deadline := t.deadline.map fun d => { d with count := d.count + 1 } }

/-- One more tick in every count that runs: the Phase Timer's two, the FR's three and the age of an open frame (R14, R16, R17,
R45). The strobe line falls (log 26). -/
def countTick (s : State) : State :=
  let s := s.setTimer s.timer.tick
  let fr := s.fr
  let s :=
    s.setFr
      { fr with
        frame := fr.frame.map fun a => { a with age := a.age + 1 }
        runCount := if fr.run.isSome then fr.runCount + 1 else fr.runCount
        closeCount := if fr.record.isSome then fr.closeCount + 1 else fr.closeCount
        search := fr.search.map (· + 1) }
  s.setFw { s.fw with strobe := false }

/-- The frame due at this tick: the next of the header run, the second of a trailer, or the beginning of a chained command's work
(R9, R49, R52, R57, R66). -/
def writeDue (s : State) : State :=
  match s.oc with
  | .active a =>
    match a.phase with
    | .headerData => writeRunFrame a s
    | .trailer k =>
      if s.fw.account.map CopyAccount.trailer = some (.first k) then writeTrailerSecond a k s else s
    | .chained =>
      if a.cmd.code = .eraseGap then enterPhase a .erase (some (a.cmd.count * Config.eraseUnit)) s else beginCopy a s
    | _ => s
  | _ => s

/-- Runs `f` while the unit is the selected one: pulses of another unit are discarded (R21). -/
def ifSelected (u : UnitId) (f : State → State) (s : State) : State := if s.tlc.selected = some u then f s else s

/-- The data frame due at this tick comes from the stream queue. -/
def State.streamFrameDue (s : State) : Bool :=
  match s.oc, s.fw.account with
  | .active a, some x => decide (a.phase = .headerData) && decide (x.source = .stream) && decide (3 ≤ x.headerRun)
  | _, _ => false

/-- The FW's request for the stream byte of a frame due at a tick at which the echo deadline drops the gate: the oldest byte is
removed and not written (R69, log 38). -/
def requestLostByte (s : State) : State :=
  if s.fw.watch.isSome && s.streamFrameDue then s.setBu { s.bu with stream := s.bu.stream.drop 1 } else s

/-- A distance tick of the selected unit: overdue events, the echo deadline of a frame still awaited, with the request of the frame
due before it, the counts, and the frame due (R21, R45, R69, R73, log 9). -/
def takeTick (u : UnitId) (s : State) : State :=
  let s := ifSelected u settle s
  let s := ifSelected u (fun s => takeEchoDeadline (requestLostByte s)) s
  ifSelected u (fun s => writeDue (countTick (enterParse s))) s

/-! ### Actions (Chapter 11) -/

/-- An ABORT answered by stopping at once (R195). A READ or READ STREAM that has had bytes delivered by then, from an eligible run in
SEARCH or in RAMP or from a record open in RAMP, posts them in its byte count: R195 says that the byte count is 0, R174 and R179 say the fill
and the bytes accepted, and the model takes R174 and R179 (DESIGN CHOICE, log 47). -/
def abortAtOnce (a : Active) (s : State) : State := conclude { a with abortMark := true } .aborted .stop (sendStop s)

/-- An ABORT inside a record: the mark is set and delivery stops (R197). -/
def abortInRecord (a : Active) (s : State) : State :=
  (s.setOc (.active { a with abortMark := true })).setFr
    { s.fr with account := { s.fr.account with stopped := true } }

/-- ABORT, by the phase in force (R194 to R197). In the reverse pass of TURN with no record open, at speed as in its ramp, it stops at
once (DEDUCED, log 40). -/
def takeAbort (s : State) : State :=
  match s.oc with
  | .active a =>
    if a.abortMark then s
    else
      let marked := { a with abortMark := true }
      match a.phase with
      | .ramp | .leader | .guard | .search | .turnStop | .chained | .acceptance => abortAtOnce a s
      | .turnRamp | .turnPass => if s.fr.record.isSome then abortInRecord a s else abortAtOnce a s
      | .record => abortInRecord a s
      | .erase | .rewriteGap => conclude marked .aborted shortFinish s
      | .headerData => cutRun marked .abort 0 s
      | .checkSpace | .lcf | .drain => s.setOc (.active marked)
      | .trailer .void => s.setOc (.active marked)
      | .trailer .commit | .trailerCheck => s.setOc (.active { marked with abortLate := true })
  | _ => s.setHw s.hw.ignoreAbort

/-- FLUSH (R198). -/
def takeFlush (s : State) : State :=
  let discarded := s.cu.queue
  let s := s.setBu (s.bu.atFlush discarded (s.activeIs .writeStream))
  let s := s.setHw (s.hw.addDiscards discarded.length)
  s.setCu { s.cu with queue := [] }

/-- CONTROL RESET is taken: RESET PENDING is set (R191, R199). -/
def takeControlReset (s : State) : State := s.setHw { s.hw with resetPending := true }

/-- POP (R187). -/
def takePop (s : State) : State := s.setCmp s.cmp.pop

/-- CLEAR ATTENTION (R189). -/
def clearCauses (u : UnitId) (s : State) : State := s.setLink u { s.link u with causes := Causes.none }

/-- An action handed to its owner (R206). -/
def takeAction (a : HostAction) (s : State) : State :=
  match a with
  | .abort => takeAbort s
  | .flush => takeFlush s
  | .controlReset => takeControlReset s
  | .pop => takePop s
  | .clearAttention u => clearCauses u s

/-- A command of the block: discarded while RESET is asserted (R201), and taken after a control reset that is due (R199, log 8). -/
def event (f : State → State) (s : State) : State := if s.hw.resetInput then s else f (takeDueReset s)

/-- A GO: discarded while RESET is asserted (R201), and checked against the state as it stands, so that one taken after CONTROL RESET
finds RESET PENDING set (R148). -/
def goEvent (f : State → State) (s : State) : State := if s.hw.resetInput then s else f s

end Sys2Proof.Machine
end

