-- ==== Sys2Proof/Machine/Actions.lean ====
section
/-! DEFINITION. The five immediate actions (R206; Chapter 11). -/

namespace Sys2Proof.Machine

/-- R194 to R197. -/
def execAbort (s : State) : Host.Outcome State Fault Refusal := .next (event takeAbort s)

/-- R198. -/
def execFlush (s : State) : Host.Outcome State Fault Refusal := .next (event takeFlush s)

/-- R199: the reset is pending from here, and takes effect at its point. -/
def execControlReset (s : State) : Host.Outcome State Fault Refusal := .next (event takeControlReset s)

/-- R187. -/
def execPop (s : State) : Host.Outcome State Fault Refusal := .next (event takePop s)

/-- R189. -/
def execClearAttention (unit : UnitId) (s : State) : Host.Outcome State Fault Refusal :=
  .next (event (clearCauses unit) s)

end Sys2Proof.Machine
end

