-- ==== Sys2Proof/Machine/GoCommands.lean ====
section
/-! DEFINITION. The fourteen GO rows: a write to SUBMIT, one row for each command code staged in CMD (R146 to R148). A row whose
code is not the staged one is no event of the block and changes nothing (log 10). -/

namespace Sys2Proof.Machine

/-- A GO of the row's code: taken when CMD stages that code. -/
def goWith (code : Option CommandCode) (s : State) : State := if s.hw.code = code then takeGo code s else s

/-- R155: a GO of this command code; the value written is disregarded (R146). -/
def execWrite (_value : Word) (s : State) : Host.Outcome State Fault Refusal := .next (goEvent (goWith (some .write)) s)

/-- R156: a GO of this command code; the value written is disregarded (R146). -/
def execWriteStream (_value : Word) (s : State) : Host.Outcome State Fault Refusal := .next (goEvent (goWith (some .writeStream)) s)

/-- R157: a GO of this command code; the value written is disregarded (R146). -/
def execWriteMark (_value : Word) (s : State) : Host.Outcome State Fault Refusal := .next (goEvent (goWith (some .writeMark)) s)

/-- R158: a GO of this command code; the value written is disregarded (R146). -/
def execEraseGap (_value : Word) (s : State) : Host.Outcome State Fault Refusal := .next (goEvent (goWith (some .eraseGap)) s)

/-- R159: a GO of this command code; the value written is disregarded (R146). -/
def execRead (_value : Word) (s : State) : Host.Outcome State Fault Refusal := .next (goEvent (goWith (some .read)) s)

/-- R160: a GO of this command code; the value written is disregarded (R146). -/
def execReadStream (_value : Word) (s : State) : Host.Outcome State Fault Refusal := .next (goEvent (goWith (some .readStream)) s)

/-- R161: a GO of this command code; the value written is disregarded (R146). -/
def execSpace (_value : Word) (s : State) : Host.Outcome State Fault Refusal := .next (goEvent (goWith (some .space)) s)

/-- R162: a GO of this command code; the value written is disregarded (R146). -/
def execSpaceMarks (_value : Word) (s : State) : Host.Outcome State Fault Refusal := .next (goEvent (goWith (some .spaceMarks)) s)

/-- R163: a GO of this command code; the value written is disregarded (R146). -/
def execLocate (_value : Word) (s : State) : Host.Outcome State Fault Refusal := .next (goEvent (goWith (some .locate)) s)

/-- R166: a GO of this command code; the value written is disregarded (R146). -/
def execRewind (_value : Word) (s : State) : Host.Outcome State Fault Refusal := .next (goEvent (goWith (some .rewind)) s)

/-- R166: a GO of this command code; the value written is disregarded (R146). -/
def execUnload (_value : Word) (s : State) : Host.Outcome State Fault Refusal := .next (goEvent (goWith (some .unload)) s)

/-- R138: a GO of this command code; the value written is disregarded (R146). -/
def execSetOrdinal (_value : Word) (s : State) : Host.Outcome State Fault Refusal := .next (goEvent (goWith (some .setOrdinal)) s)

/-- R36: a GO of this command code; the value written is disregarded (R146). -/
def execLoadProfile (_value : Word) (s : State) : Host.Outcome State Fault Refusal := .next (goEvent (goWith (some .loadProfile)) s)

/-- R147: a GO whose code names none of the thirteen commands. -/
def execBadCode (_value : Word) (s : State) : Host.Outcome State Fault Refusal := .next (goEvent (goWith none) s)

end Sys2Proof.Machine
end

