-- ==== Sys2Proof/Machine/LineEvents.lean ====
section
/-! DEFINITION. The changes of a unit's status lines and what each brings about (Chapter 2; R58 to R60). -/

namespace Sys2Proof.Machine

/-- A change of a line. The live copy follows it at any time; a line already at that level has not changed (log 10); while RESET is
asserted nothing else follows (R201); a control reset that is due is taken before it (log 8). -/
def lineEvent (u : UnitId) (k : Line) (b : Bool) (react : State → State) (s : State) : State :=
  if (s.link u).lines.get k = b then s
  else if s.hw.resetInput then s.setLine u k b
  else react ((takeDueReset s).setLine u k b)

/-- The other eight lines of a unit whose PRESENT is low are disregarded (R20); their live copies are followed. -/
def ifPresent (u : UnitId) (react : State → State) (s : State) : State :=
  if (s.link u).lines.present then react s else s

/-! ### PRESENT and READY (R24, R33) -/

/-- A unit enters IDLE from ABSENT or NOT READY with BECAME READY, or REWINDING when that line is high. -/
def enterReady (u : UnitId) (s : State) : State :=
  if (s.link u).lines.rewinding then s.setUnitState u .rewinding
  else raiseCause .becameReady u (s.setUnitState u .idle)

/-- PRESENT rises: the other lines are taken as they stand. -/
def reactPresentRise (u : UnitId) (s : State) : State :=
  if (s.link u).lines.ready then enterReady u s else s.setUnitState u .notReady

/-- READY rises on a NOT READY unit. -/
def reactReadyRise (u : UnitId) (s : State) : State :=
  if (s.link u).state = .notReady then enterReady u s else s

/-- The cause raised when a unit in this state loses READY or PRESENT. -/
def UnitState.lossCause : UnitState → Option Cause
  | .absent | .notReady => none
  | .unloading => some .unloaded
  | .idle | .ramping | .runningForward | .runningReverse | .stopping | .rewinding => some .lostReady

/-- READY or PRESENT falls: the unit takes its new state, its cause is raised, and a selected unit is lost. -/
def loseUnit (u : UnitId) (st : UnitState) (s : State) : State :=
  let cause := (s.link u).state.lossCause
  let s := s.setUnitState u st
  let s := match cause with
    | some k => raiseCause k u s
    | none => s
  if s.tlc.selected = some u then lossOfUnit s else s

/-- PRESENT falls: ABSENT from whatever state. -/
def reactPresentFall (u : UnitId) (s : State) : State := loseUnit u .absent s

/-- READY falls: NOT READY from any state but ABSENT and NOT READY. -/
def reactReadyFall (u : UnitId) (s : State) : State :=
  match (s.link u).state with
  | .absent | .notReady => s
  | _ => loseUnit u .notReady s

/-! ### LOAD POINT, END MARKER, END (R28, R29) -/

/-- The selected unit is under a reverse request, at speed or ramping. -/
def State.travelsReverse (s : State) (u : UnitId) : Bool :=
  match (s.link u).state with
  | .runningReverse => true
  | .ramping => decide (s.tlc.request = some .reverse)
  | _ => false

/-- The selected unit is under a forward request, at speed or ramping. -/
def State.travelsForward (s : State) (u : UnitId) : Bool :=
  match (s.link u).state with
  | .runningForward => true
  | .ramping => decide (s.tlc.request = some .forward) || decide (s.tlc.request = some .forwardWrite)
  | _ => false

/-- The arrival at the load point in reverse: STOP, the open record to fragments, the catalogue anchored, the end LOAD POINT. -/
def reactLoadPointRise (u : UnitId) (s : State) : State :=
  if s.tlc.selected = some u ∧ s.travelsReverse u = true then
    endInStop .loadPoint (takeLoadPoint u (readerAtEvent (sendStop s)))
  else s

/-- The unit moves forward: under a forward request, or coasting in the stop of a TURN not yet reversed (R29, R54). -/
def State.movesForward (s : State) (u : UnitId) : Bool :=
  s.travelsForward u ||
    (decide ((s.link u).state = .stopping) &&
      (match s.oc with | .active a => decide (a.phase = .turnStop) | _ => false))

/-- END MARKER in the forward search of a LOCATE (R165). -/
def searchMarker (a : Active) (s : State) : State :=
  match a.phase with
  | .ramp | .search | .record =>
    if s.fr.record.isSome then s.setOc (.active { a with endRisen := true })
    else conclude a .notFound shortFinish s
  | _ => s.setOc (.active a)

/-- END WARNING for the command in force; a LOCATE search ends at it (R29, R165). -/
def reactEndMarkerRise (u : UnitId) (s : State) : State :=
  if s.tlc.selected = some u ∧ s.movesForward u = true then
    match s.oc with
    | .active a =>
      let a := { a with qualifiers := { a.qualifiers with endWarning := true } }
      if a.plan = some .search then searchMarker a s else s.setOc (.active a)
    | _ => s
  else s

/-- END: STOP, the gate dropped, the open record closed, the end END OF MEDIUM. -/
def reactEndRise (u : UnitId) (s : State) : State :=
  if s.tlc.selected = some u ∧ s.travelsForward u = true then
    endInStop .endOfMedium (readerAtEvent (dropGateAndReport (sendStop s)))
  else s

/-! ### WRITE PERMIT (R39) -/

/-- A loss of permit under the gate: the gate drops at once; an operation before its stop ends WRITE FAULT, with STOP sent by the
OC. -/
def losePermit (s : State) : State :=
  let s := dropGateAndReport s
  match s.oc with
  | .active _ | .finishing _ => endInStop .writeFault (sendStop s)
  | _ => s

/-- PERMIT CHANGED on a ready unit; a fall under the gate is a loss of permit. -/
def reactPermit (u : UnitId) (level : Bool) (s : State) : State :=
  let s := if (s.link u).lines.ready then raiseCause .permitChanged u s else s
  if level = false ∧ s.tlc.selected = some u ∧ s.fw.gate = true then losePermit s else s

/-! ### REWINDING (R31 to R34) -/

/-- The state an accepted request gives: REWINDING for a REWIND, UNLOADING for an UNLOAD. -/
def acceptedState : Option MotionRequest → Option UnitState
  | some .rewind => some .rewinding
  | some .unload => some .unloading
  | _ => none

/-- A REWIND or UNLOAD is accepted: the selection is released, the catalogue UNKNOWN, DONE posted, the OC IDLE (R31, R55). -/
def acceptRequest (u : UnitId) (st : UnitState) (s : State) : State :=
  let s := invalidate u (releaseUnit (s.setUnitState u st))
  match s.oc with
  | .active a => conclude a .done .idle s
  | _ => enterIdle s

/-- A rewind the transport begins on its own (R34). -/
def unrequestedRewind (u : UnitId) (s : State) : State :=
  let s := invalidate u (s.setUnitState u .rewinding)
  if s.tlc.selected = some u then lossOfUnit s else s

/-- REWINDING rises: an acceptance while a REWIND or UNLOAD awaits it, a rewind of the transport's own in the other states that
have the medium, nothing in REWINDING and UNLOADING. -/
def reactRewindingRise (u : UnitId) (s : State) : State :=
  match (s.link u).state with
  | .ramping =>
    match acceptedState s.tlc.request with
    | some st => acceptRequest u st s
    | none => unrequestedRewind u s
  | .idle | .runningForward | .runningReverse | .stopping => unrequestedRewind u s
  | _ => s

/-- REWINDING falls with READY high on a unit in REWINDING or UNLOADING: IDLE, and REWOUND with LOAD POINT high (R32, R33). -/
def reactRewindingFall (u : UnitId) (s : State) : State :=
  match (s.link u).state with
  | .rewinding | .unloading =>
    if (s.link u).lines.ready then
      let s := s.setUnitState u .idle
      if (s.link u).lines.loadPoint then raiseCause .rewound u s else s
    else s
  | _ => s

/-! ### AT SPEED and MOVING (R25, R27, R30) -/

/-- The phase that follows RAMP (R48). -/
def leaveRamp (a : Active) (s : State) : State :=
  let code := a.cmd.code
  if code.writesCopies then
    if a.loadPointAtStart then enterPhase a .leader (some Config.leaderTicks) s
    else enterPhase a .guard (some Config.guardTicks) s
  else if code = .eraseGap then
    if a.loadPointAtStart then enterPhase a .leader (some Config.leaderTicks) s
    else enterPhase a .erase (some (a.cmd.count * Config.eraseUnit)) s
  else enterPhase a (if s.fr.record.isSome then .record else .search) none s

/-- The search count starts from zero at AT SPEED of a read-class operation with no record open (R17). -/
def startSearch (s : State) : State :=
  s.setFr { s.fr with search := if s.fr.record.isSome then none else some 0 }

/-- The at-speed report: RAMP ends, and so does the ramp of TURN, which is no new phase (R25, R45, R48, R54). -/
def atSpeedReport (s : State) : State :=
  match s.oc with
  | .active a =>
    match a.phase with
    | .ramp => leaveRamp a (if a.cmd.code.readClass then startSearch s else s)
    | .turnRamp => (startSearch s).setOc (.active { a with phase := .turnPass })
    | _ => s
  | _ => s

/-- The running state a motion request gives (R25). -/
def runningState : Option MotionRequest → Option UnitState
  | some .forward | some .forwardWrite => some .runningForward
  | some .reverse => some .runningReverse
  | _ => none

/-- AT SPEED rises on the ramping selected unit. -/
def reactAtSpeedRise (u : UnitId) (s : State) : State :=
  if s.tlc.selected = some u ∧ (s.link u).state = .ramping then
    match runningState s.tlc.request with
    | some st =>
      let s := s.setUnitState u st
      atSpeedReport (s.setTlc { s.tlc with atSpeedTimer := false })
    | none => s
  else s

/-- Loss of speed: STOP, the gate dropped, the open record dealt with, the end TRANSPORT FAULT (R30, R58, R60, R95). -/
def lossOfSpeed (s : State) : State :=
  endInStop .transportFault (readerAtEvent (dropGateAndReport (sendStop s)))

/-- The unit runs at speed in either direction. -/
def State.atSpeedNow (s : State) (u : UnitId) : Bool :=
  decide ((s.link u).state = .runningForward) || decide ((s.link u).state = .runningReverse)

/-- AT SPEED falls on the running selected unit, no STOP sent. -/
def reactAtSpeedFall (u : UnitId) (s : State) : State :=
  if s.tlc.selected = some u ∧ s.atSpeedNow u = true then lossOfSpeed s else s

/-- Stop complete: the stop timer stops, the unit is IDLE, and the OC releases the selection or, in TURN, sends REVERSE (R27). -/
def stopComplete (u : UnitId) (s : State) : State :=
  let s := s.setUnitState u .idle
  let s := s.setTlc { s.tlc with stopTimer := false }
  match s.oc with
  | .stopping => stopDone s
  | .active a => if a.phase = .turnStop then turnToReverse s else s
  | _ => s

/-- MOVING falls on the selected unit: stop complete in STOPPING, loss of speed while running. -/
def reactMovingFall (u : UnitId) (s : State) : State :=
  if s.tlc.selected = some u then
    if (s.link u).state = .stopping then stopComplete u s
    else if s.atSpeedNow u then lossOfSpeed s
    else s
  else s

/-! ### The meanings -/

/-- R24. -/
def execPresentRise (unit : UnitId) (s : State) : Host.Outcome State Fault Refusal :=
  .next (lineEvent unit .present true (reactPresentRise unit) s)

/-- R24. -/
def execPresentFall (unit : UnitId) (s : State) : Host.Outcome State Fault Refusal :=
  .next (lineEvent unit .present false (reactPresentFall unit) s)

/-- R24. -/
def execReadyRise (unit : UnitId) (s : State) : Host.Outcome State Fault Refusal :=
  .next (lineEvent unit .ready true (ifPresent unit (reactReadyRise unit)) s)

/-- R24, R33. -/
def execReadyFall (unit : UnitId) (s : State) : Host.Outcome State Fault Refusal :=
  .next (lineEvent unit .ready false (ifPresent unit (reactReadyFall unit)) s)

/-- R28. -/
def execLoadPointRise (unit : UnitId) (s : State) : Host.Outcome State Fault Refusal :=
  .next (lineEvent unit .loadPoint true (ifPresent unit (reactLoadPointRise unit)) s)

/-- R29. -/
def execEndMarkerRise (unit : UnitId) (s : State) : Host.Outcome State Fault Refusal :=
  .next (lineEvent unit .endMarker true (ifPresent unit (reactEndMarkerRise unit)) s)

/-- R29. -/
def execEndRise (unit : UnitId) (s : State) : Host.Outcome State Fault Refusal :=
  .next (lineEvent unit .endLine true (ifPresent unit (reactEndRise unit)) s)

/-- R39. -/
def execWritePermitChange (unit : UnitId) (level : Bool) (s : State) : Host.Outcome State Fault Refusal :=
  .next (lineEvent unit .writePermit level (ifPresent unit (reactPermit unit level)) s)

/-- R31, R34. -/
def execRewindingRise (unit : UnitId) (s : State) : Host.Outcome State Fault Refusal :=
  .next (lineEvent unit .rewinding true (ifPresent unit (reactRewindingRise unit)) s)

/-- R32, R33. -/
def execRewindingFall (unit : UnitId) (s : State) : Host.Outcome State Fault Refusal :=
  .next (lineEvent unit .rewinding false (ifPresent unit (reactRewindingFall unit)) s)

/-- R25. -/
def execAtSpeedRise (unit : UnitId) (s : State) : Host.Outcome State Fault Refusal :=
  .next (lineEvent unit .atSpeed true (ifPresent unit (reactAtSpeedRise unit)) s)

/-- R30. -/
def execAtSpeedFall (unit : UnitId) (s : State) : Host.Outcome State Fault Refusal :=
  .next (lineEvent unit .atSpeed false (ifPresent unit (reactAtSpeedFall unit)) s)

/-- R27, R30. -/
def execMovingFall (unit : UnitId) (s : State) : Host.Outcome State Fault Refusal :=
  .next (lineEvent unit .moving false (ifPresent unit (reactMovingFall unit)) s)

/-- The line and the level of the changes no other row names. -/
def lineOfChange : LineChange → Line × Bool
  | .loadPointFall => (.loadPoint, false)
  | .endMarkerFall => (.endMarker, false)
  | .endFall => (.endLine, false)
  | .movingRise => (.moving, true)

/-- R20: the live copy follows, with no further effect. -/
def execLiveLineChange (unit : UnitId) (change : LineChange) (s : State) : Host.Outcome State Fault Refusal :=
  .next (lineEvent unit (lineOfChange change).1 (lineOfChange change).2 id s)

end Sys2Proof.Machine
end

