-- ==== Sys2Proof/Machine/MediumEvents.lean ====
section
/-! DEFINITION. The pulses of the shared lines and the points of an open frame (R21, R73, R82 to R85). -/

namespace Sys2Proof.Machine

/-- A pulse on a read lane: in READBACK and PARSE it enters the open frame, or opens one when it is strong or weak start is on; in
IDLE it is disregarded (R81 to R83). -/
def takeLanePulse (lane : Lane) (strong : Bool) (s : State) : State :=
  match s.fr.mode with
  | .idle => s
  | _ =>
    match s.fr.frame with
    | some a => s.setFr { s.fr with frame := some (a.pulse lane strong) }
    | none => if strong || s.fr.weakStart then openFrame lane strong s else s

/-- The half-period point of the open frame: sampling closes (R83). -/
def takeHalfPeriod (s : State) : State :=
  s.setFr { s.fr with frame := s.fr.frame.map fun a => { a with sampling := false } }

/-- R73; an echo of another unit is discarded (R21). -/
def execEcho (unit : UnitId) (s : State) : Host.Outcome State Fault Refusal :=
  .next (event (ifSelected unit takeEcho) s)

/-- R45; a tick of another unit is discarded (R21). -/
def execDistanceTick (unit : UnitId) (s : State) : Host.Outcome State Fault Refusal := .next (event (takeTick unit) s)

/-- R83 to R85: the three-quarter point of the open frame. -/
def execFrameClose (s : State) : Host.Outcome State Fault Refusal := .next (event closeFrame s)

/-- R82, R83; a pulse of another unit is discarded (R21). -/
def execReadLanePulse (unit : UnitId) (lane : Lane) (strong : Bool) (s : State) : Host.Outcome State Fault Refusal :=
  .next (event (ifSelected unit (takeLanePulse lane strong)) s)

/-- R83. -/
def execHalfPeriodPoint (s : State) : Host.Outcome State Fault Refusal := .next (event takeHalfPeriod s)

end Sys2Proof.Machine
end

