-- ==== Sys2Proof/Machine/PhaseEvents.lean ====
section
/-! DEFINITION. The distances reached, the deadlines, the Command Unit's own steps and the effect of a control reset. Each acts when
its condition holds and changes nothing otherwise (log 10). -/

namespace Sys2Proof.Machine

/-- R73, R74: the echo deadline taken with the watch still AWAITING. -/
def execEchoDeadline (s : State) : Host.Outcome State Fault Refusal := .next (event takeEchoDeadline s)

/-- R14. -/
def execRunBreak (s : State) : Host.Outcome State Fault Refusal := .next (event takeRunBreak s)

/-- R16. -/
def execCloseLimit (s : State) : Host.Outcome State Fault Refusal := .next (event takeCloseLimit s)

/-- R17, R96. -/
def execSearchLimit (s : State) : Host.Outcome State Fault Refusal := .next (event takeSearchLimit s)

/-- R10. -/
def execGuardEnd (s : State) : Host.Outcome State Fault Refusal := .next (event takeGuardEnd s)

/-- R11. -/
def execLeaderEnd (s : State) : Host.Outcome State Fault Refusal := .next (event takeLeaderEnd s)

/-- R72. -/
def execLcfPlace (s : State) : Host.Outcome State Fault Refusal := .next (event takeCheckSpaceEnd s)

/-- R110. -/
def execDrainDeadline (s : State) : Host.Outcome State Fault Refusal := .next (event (takeDeadline .listening) s)

/-- R75. -/
def execTrailerPlacement (s : State) : Host.Outcome State Fault Refusal := .next (event takeTrailerPlacement s)

/-- R113. -/
def execTrailerDeadline (s : State) : Host.Outcome State Fault Refusal := .next (event (takeDeadline .trailerCheck) s)

/-- R51. -/
def execRewriteGapEnd (s : State) : Host.Outcome State Fault Refusal := .next (event takeRewriteGapEnd s)

/-- R13, R52. -/
def execEraseEnd (s : State) : Host.Outcome State Fault Refusal := .next (event takeEraseEnd s)

/-- R57, R152. -/
def execEndOfFinish (s : State) : Host.Outcome State Fault Refusal := .next (event takeEndOfFinish s)

/-- R150. -/
def execStartFromRest (s : State) : Host.Outcome State Fault Refusal := .next (event takeStart s)

/-- R151. -/
def execNonMediumCommandExecution (s : State) : Host.Outcome State Fault Refusal := .next (event takeNonMedium s)

/-- R199, R200: a pending reset whose point is reached takes effect; `event` takes it, and nothing follows. -/
def execControlResetEffect (s : State) : Host.Outcome State Fault Refusal := .next (event id s)

end Sys2Proof.Machine
end

