-- ==== Sys2Proof/Machine/ResetInput.lean ====
section
/-! DEFINITION. The RESET input (R42, R201): its assertion and its release. -/

namespace Sys2Proof.Machine

/-- A unit at hardware reset: its live lines, the state they give, no cause, the reset profile (R42). -/
def UnitLink.atHardwareReset (l : UnitLink) : UnitLink :=
  { lines := l.lines, state := l.lines.unitState, causes := .none, profile := .reset }

/-- The link at hardware reset: STOP sent to the unit that was selected, nothing selected, no timer running (R42). -/
def TransportLink.atHardwareReset (t : TransportLink) : TransportLink :=
  { units := t.units.map UnitLink.atHardwareReset, selected := none,
    request := if t.selected.isSome then some .stop else t.request,
    atSpeedTimer := false, acceptanceTimer := false, stopTimer := false }

/-- Every block at once in its reset state, RESET asserted (R201). The commands that wait outside the part are no part of it. -/
def hardwareReset (s : State) : State :=
  { State.reset with
    hw := { HostWindow.reset with resetInput := true }, tlc := s.tlc.atHardwareReset, pending := s.pending }

/-- The release of RESET: each unit's state from its lines as they stand (R42). -/
def resetRelease (s : State) : State :=
  if s.hw.resetInput then
    (s.setHw { s.hw with resetInput := false }).setTlc
      { s.tlc with units := s.tlc.units.map fun l => { l with state := l.lines.unitState } }
  else s

/-- R201. -/
def execHardwareReset (s : State) : Host.Outcome State Fault Refusal := .next (hardwareReset s)

/-- R42, R201. -/
def execResetRelease (s : State) : Host.Outcome State Fault Refusal := .next (resetRelease s)

end Sys2Proof.Machine
end

