-- ==== Sys2Proof/Machine/TimerEvents.lean ====
section
/-! DEFINITION. The expiries of the three reference clock timers (R25, R27, R31). A timer that is not running does not expire
(log 10); the lengths of the timers are time and no part of the model (log 11). -/

namespace Sys2Proof.Machine

/-- The at-speed timer expires: STOP, and the operation ends TRANSPORT FAULT (R25, R58). -/
def takeAtSpeedTimeout (s : State) : State :=
  if s.tlc.atSpeedTimer then
    endInStop .transportFault (sendStop (s.setTlc { s.tlc with atSpeedTimer := false }))
  else s

/-- The acceptance timer expires: STOP, and the command ends TRANSPORT FAULT with the catalogue kept (R31, R58). -/
def takeAcceptanceTimeout (s : State) : State :=
  if s.tlc.acceptanceTimer then
    endInStop .transportFault (sendStop (s.setTlc { s.tlc with acceptanceTimer := false }))
  else s

/-- What STOP FAULT does to the link: the unit IDLE, the cause raised with its catalogue effect, the selection released (R23, R27,
R38). -/
def stopFault (u : UnitId) (s : State) : State :=
  readerAtStop .idle (releaseUnit (raiseCause .stopFault u (s.setUnitState u .idle)))

/-- The stop timer expires with MOVING high: STOP FAULT; the OC takes the release as stop complete, or in TURN ends the LOCATE
TRANSPORT FAULT (R27, R54). -/
def takeStopTimeout (s : State) : State :=
  match s.tlc.selected with
  | none => s
  | some u =>
    if s.tlc.stopTimer then
      let s := stopFault u s
      match s.oc with
      | .active a => conclude a .transportFault .idle s
      | _ => enterIdle s
    else s

/-- R25. -/
def execAtSpeedTimeout (s : State) : Host.Outcome State Fault Refusal := .next (event takeAtSpeedTimeout s)

/-- R31. -/
def execAcceptanceTimeout (s : State) : Host.Outcome State Fault Refusal := .next (event takeAcceptanceTimeout s)

/-- R27. -/
def execStopTimeout (s : State) : Host.Outcome State Fault Refusal := .next (event takeStopTimeout s)

end Sys2Proof.Machine
end

