-- ==== Sys2Proof/WellFormed.lean ====
section
/-! DEFINITION. When a command is one its row describes. Every operand's range is its type's, so the one check left is
REGISTER_WRITE's: its row is a write to a staging register, a read-only register, an unused offset or ACTION with an
unassigned code; a write to any other register is another row of the table (R204). -/

namespace Sys2Proof

/-- Offset bit 0 is disregarded, so an odd address reaches the word below it (R204). -/
def wordOffset (offset : BitVec 6) : Nat := offset.toNat / 2 * 2

/-- R206: the action field of a word written to ACTION names one of the five actions. -/
def assignedAction (value : Word) : Bool :=
  decide (1 ≤ (value.extractLsb' 0 3).toNat) && decide ((value.extractLsb' 0 3).toNat ≤ 5)

/-- A write to this offset is the event of another row: ACTION with an assigned code, SUBMIT, INTEN, BUFSEL, BUFPTR,
BUFDATA, STREAM, DMASRC or CATSEL (R203). -/
def writeHasOwnRow (offset : BitVec 6) (value : Word) : Bool :=
  match wordOffset offset with
  | 0x02 => assignedAction value
  | 0x0C => true
  | 0x0E => true
  | 0x20 => true
  | 0x22 => true
  | 0x24 => true
  | 0x26 => true
  | 0x2A => true
  | 0x2C => true
  | _ => false

/-- The command is one its row of the table describes. -/
def Instr.wellFormed : Instr → Bool
  | .registerWrite offset value => !writeHasOwnRow offset value
  | _ => true

end Sys2Proof
end

