-- ==== Sys2Proof/Machine/Registers.lean ====
section
/-! DEFINITION. The register window (Chapter 12): the word each offset reads, the host writes and reads with their effects, and
the accesses made with DACK. -/

namespace Sys2Proof.Machine

/-! ### The words (R205 to R209) -/

/-- SUBMIT as read: the last tag given and the result (R206). -/
def CommandUnit.submitWord (cu : CommandUnit) : Word := packWord [(cu.lastTag.toNat, 0), (cu.result.number, 8)]

/-- INTEN (R206). -/
def HostWindow.intenWord (hw : HostWindow) : Word :=
  packWord [(bitOf hw.completionEnable, 0), (bitOf hw.attentionEnable, 1), (bitOf hw.resetDoneEnable, 2)]

/-- Word n of a completion (R207). -/
def Completion.word (r : Completion) (n : Nat) : Word :=
  match n with
  | 0 =>
    packWord
      [(r.tag.toNat, 0), (r.unit.val, 4), (r.code.number, 6), (r.outcome.number, 10), (bitOf r.ordinal.isSome, 15)]
  | 1 => r.ordinal.getD 0
  | 2 => packWord [(r.byteCount, 0), (r.copies, 13)]
  | 3 => packWord [(r.passed, 0), (r.skew, 12)]
  | 4 => packWord [(r.corrected, 0), (r.marginal, 8)]
  | 5 => r.qualifiers.word
  | _ => packWord [(failureNumber r.failure, 0)]

/-- Completion head word n: the oldest record of the ring, all zero while the ring is empty (R188). -/
def CompletionUnit.headWord (c : CompletionUnit) (n : Nat) : Word :=
  match c.ring with
  | [] => 0
  | r :: _ => r.word n

/-- RINGSTAT (R207). -/
def CompletionUnit.ringWord (c : CompletionUnit) : Word := packWord [(c.ring.length, 0), (bitOf c.held.isSome, 4)]

/-- BUFSEL as read (R209). -/
def BufferUnit.selectWord (bu : BufferUnit) : Word :=
  packWord [(bu.select.val, 0), (bitOf bu.selected.committed, 1), (bu.selected.fill, 2)]

/-- CATSEL (R208). -/
def RecordCatalogue.selectWord (rc : RecordCatalogue) : Word := packWord [(rc.selectIndex.val, 0), (rc.selectUnit.val, 8)]

def CatalogueState.number : CatalogueState → Nat
  | .unknown => 0
  | .floating => 1
  | .anchored => 2

def Trailer.number : Trailer → Nat
  | .none => 0
  | .commit => 1
  | .void => 2

def Condition.number : Condition → Nat
  | .clean => 0
  | .corrected => 1
  | .damaged => 2
  | .unchecked => 3

def Kind.number : Kind → Nat
  | .data => 0
  | .mark => 1

/-- CATINFO (R208). -/
def Snapshot.infoWord (x : Snapshot) : Word := packWord [(x.state.number, 0), (x.count, 2), (x.position, 8)]

/-- CATENT word n: an absent entry reads zero throughout, and so do the ordinal and copy of a header that was not valid (R143,
R208). -/
def Snapshot.entryWord (x : Snapshot) (n : Nat) : Word :=
  match x.entry with
  | none => 0
  | some e =>
    match n with
    | 0 => (e.ident.map Ident.ordinal).getD 0
    | 1 =>
      packWord
        [(1, 0), (bitOf e.ident.isSome, 1), (e.kind.number, 2), (((e.ident.map Ident.copy).getD 0).toNat, 3),
         (e.trailer.number, 6), (e.condition.number, 8), (bitOf e.long, 10)]
    | _ => packWord [(e.length, 0)]

/-- TSTAT: the live lines and the causes of the unit CATSEL names (R20, R189, R208). -/
def UnitLink.statusWord (l : UnitLink) : Word :=
  packWord
    [(bitOf l.lines.present, 0), (bitOf l.lines.ready, 1), (bitOf l.lines.loadPoint, 2), (bitOf l.lines.endMarker, 3),
     (bitOf l.lines.endLine, 4), (bitOf l.lines.writePermit, 5), (bitOf l.lines.rewinding, 6),
     (bitOf l.lines.moving, 7), (bitOf l.lines.atSpeed, 8), (bitOf l.causes.becameReady, 9),
     (bitOf l.causes.lostReady, 10), (bitOf l.causes.rewound, 11), (bitOf l.causes.unloaded, 12),
     (bitOf l.causes.permitChanged, 13), (bitOf l.causes.stopFault, 14)]

/-- ATTN (R189, R208). -/
def TransportLink.attentionWord (t : TransportLink) : Word :=
  packWord
    [(bitOf t.units.u0.causes.any, 0), (bitOf t.units.u1.causes.any, 1), (bitOf t.units.u2.causes.any, 2),
     (bitOf t.units.u3.causes.any, 3)]

/-- The word a read of an offset returns, as the state stands (R203, R204). A read of STATUS, CATINFO, BUFDATA or STREAM also has an
effect, and those reads are rows of their own; every other read changes nothing. -/
def readWord (offset : BitVec 6) (s : State) : Word :=
  if s.hw.resetInput then 0
  else
    match wordOffset offset with
    | 0x00 => s.hw.statusWord
    | 0x04 => s.hw.cmd
    | 0x06 => s.hw.count
    | 0x08 => s.hw.arg
    | 0x0A => s.hw.mode
    | 0x0C => s.cu.submitWord
    | 0x0E => s.hw.intenWord
    | 0x10 => s.cmp.headWord 0
    | 0x12 => s.cmp.headWord 1
    | 0x14 => s.cmp.headWord 2
    | 0x16 => s.cmp.headWord 3
    | 0x18 => s.cmp.headWord 4
    | 0x1A => s.cmp.headWord 5
    | 0x1C => s.cmp.headWord 6
    | 0x1E => s.cmp.ringWord
    | 0x20 => s.bu.selectWord
    | 0x22 => BitVec.ofNat 16 s.bu.selected.pointer
    | 0x24 => if s.bu.portOpen then s.bu.selected.portValue else 0
    | 0x26 => pullValue s.bu.stream
    | 0x28 => packWord [(s.bu.stream.length, 0)]
    | 0x2A => packWord [(s.bu.dma.number, 0)]
    | 0x2C => s.rc.selectWord
    | 0x2E => s.rc.takeSnapshot.snapshot.infoWord
    | 0x30 => s.rc.snapshot.nextOrdinal
    | 0x32 => s.rc.snapshot.entryWord 0
    | 0x34 => s.rc.snapshot.entryWord 1
    | 0x36 => s.rc.snapshot.entryWord 2
    | 0x38 => (s.link s.rc.selectUnit).statusWord
    | 0x3A => s.tlc.attentionWord
    | _ => 0

/-! ### Host reads with an effect -/

/-- The word put on the bus by a read. -/
def State.setDataOut (s : State) (w : Word) : State := s.setHw { s.hw with dataOut := w }

/-- A read of the block: 0 with no effect while RESET is asserted (R201), else taken after a control reset that is due (log 8). -/
def readEvent (f : State → State) (s : State) : State :=
  if s.hw.resetInput then s.setDataOut 0 else f (takeDueReset s)

/-- A read of STATUS (R190, R191, R198, R206). -/
def takeStatusRead (s : State) : State :=
  (s.setHw s.hw.clearStatus).setDataOut s.hw.statusWord

/-- A read of CATINFO (R142). -/
def takeCatinfoRead (s : State) : State :=
  let rc := s.rc.takeSnapshot
  (s.setRc rc).setDataOut rc.snapshot.infoWord

/-- A read of the buffer data port (R173). -/
def portRead (s : State) : State :=
  if s.bu.portOpen then
    let r := s.bu.selected
    (s.setBu (s.bu.setBuffer s.bu.select { r with pointer := nextPointer r.pointer })).setDataOut r.portValue
  else (s.setHw s.hw.refuseAccess).setDataOut 0

/-- A pull (R175, R177). -/
def takePull (s : State) : State :=
  if s.bu.stream.isEmpty then (s.setHw s.hw.refuseStream).setDataOut 0
  else
    let bu := { s.bu with stream := s.bu.stream.drop 2 }
    (s.setBu (bu.settleDelivery (s.activeIs .readStream))).setDataOut (pullValue s.bu.stream)

/-! ### Host writes -/

/-- The staging registers hold what was last written to their named fields (R204, R205). -/
def stage (offset : Nat) (w : Word) (hw : HostWindow) : HostWindow :=
  match offset with
  | 0x04 => { hw with cmd := namedBits w 7 }
  | 0x06 => { hw with count := w }
  | 0x08 => { hw with arg := w }
  | 0x0A => { hw with mode := namedBits w 6 }
  | _ => hw

/-- A write to INTEN sets all three enables (R192, R206). -/
def takeIntenWrite (w : Word) (s : State) : State :=
  s.setHw
    { s.hw with completionEnable := flagOf w 0, attentionEnable := flagOf w 1, resetDoneEnable := flagOf w 2 }

/-- A write to CATSEL selects and takes a snapshot (R142, R208). -/
def takeCatselWrite (w : Word) (s : State) : State :=
  s.setRc
    { s.rc with selectUnit := unitOf w 8, selectIndex := (w.extractLsb' 0 5).toFin }.takeSnapshot

/-- A write to BUFSEL (R169, R209). -/
def takeBufselWrite (w : Word) (s : State) : State := s.setBu { s.bu with select := bufferOf w 0 }

/-- A write to BUFPTR: taken in either state of the buffer, refused above 4096 (R171). -/
def takeBufptrWrite (w : Word) (s : State) : State :=
  if Config.recordBytes < w.toNat then s.setHw s.hw.refuseAccess
  else s.setBu (s.bu.setBuffer s.bu.select { s.bu.selected with pointer := w.toNat })

/-- A write to the buffer data port (R172). -/
def portWrite (w : Word) (s : State) : State :=
  if s.bu.portOpen then s.setBu (s.bu.setBuffer s.bu.select (s.bu.selected.storeWord w))
  else s.setHw s.hw.refuseAccess

/-- A push (R176). -/
def takePush (w : Word) (s : State) : State :=
  if s.pushAccepted then s.setBu (s.bu.pushWord w) else s.setHw s.hw.refuseStream

/-- A write to DMASRC (R180, R209). -/
def takeDmasrcWrite (w : Word) (s : State) : State := s.setBu { s.bu with dma := DmaSource.ofWord w }

/-- A host write by its offset (R203, R204): a staging register stores, a register with a row of its own acts as that row does, a
read-only register, an unused offset and an unassigned action disregard it. -/
def takeRegisterWrite (offset : BitVec 6) (w : Word) (s : State) : State :=
  match wordOffset offset with
  | 0x02 =>
    match HostAction.ofWord w with
    | some a => takeAction a s
    | none => s
  | 0x0C => takeGo s.hw.code s
  | 0x0E => takeIntenWrite w s
  | 0x20 => takeBufselWrite w s
  | 0x22 => takeBufptrWrite w s
  | 0x24 => portWrite w s
  | 0x26 => takePush w s
  | 0x2A => takeDmasrcWrite w s
  | 0x2C => takeCatselWrite w s
  | n => s.setHw (stage n w s.hw)

/-! ### Accesses made with DACK (R181) -/

/-- A DACK read of the port the DMA source names. -/
def dackRead (s : State) : State :=
  match s.bu.dma with
  | .off => (s.setHw s.hw.refuseAccess).setDataOut 0
  | .bufferIn | .bufferOut => portRead s
  | .stream => takePull s

/-- A DACK write to the port the DMA source names. -/
def dackWrite (w : Word) (s : State) : State :=
  match s.bu.dma with
  | .off => s.setHw s.hw.refuseAccess
  | .bufferIn | .bufferOut => portWrite w s
  | .stream => takePush w s

end Sys2Proof.Machine
end

