-- ==== Sys2Proof/Machine/WindowAccess.lean ====
section
/-! DEFINITION. Host accesses to the register window and accesses made with DACK (Chapters 9 and 12). -/

namespace Sys2Proof.Machine

/-- R204, R205; a write to SUBMIT is a GO (R146, R148). -/
def execRegisterWrite (offset : BitVec 6) (value : Word) (s : State) : Host.Outcome State Fault Refusal :=
  .next
    (if wordOffset offset = 0x0C then goEvent (takeRegisterWrite offset value) s
     else event (takeRegisterWrite offset value) s)

/-- R190, R206. -/
def execStatusRead (s : State) : Host.Outcome State Fault Refusal := .next (readEvent takeStatusRead s)

/-- R192. -/
def execIntenWrite (value : Word) (s : State) : Host.Outcome State Fault Refusal :=
  .next (event (takeIntenWrite value) s)

/-- R142, R208. -/
def execCatselWrite (value : Word) (s : State) : Host.Outcome State Fault Refusal :=
  .next (event (takeCatselWrite value) s)

/-- R142. -/
def execCatinfoRead (s : State) : Host.Outcome State Fault Refusal := .next (readEvent takeCatinfoRead s)

/-- R169, R209. -/
def execBufselWrite (value : Word) (s : State) : Host.Outcome State Fault Refusal :=
  .next (event (takeBufselWrite value) s)

/-- R171. -/
def execBufptrWrite (value : Word) (s : State) : Host.Outcome State Fault Refusal :=
  .next (event (takeBufptrWrite value) s)

/-- R172. -/
def execBufdataWrite (value : Word) (s : State) : Host.Outcome State Fault Refusal :=
  .next (event (portWrite value) s)

/-- R173. -/
def execBufdataRead (s : State) : Host.Outcome State Fault Refusal := .next (readEvent portRead s)

/-- R176. -/
def execPush (value : Word) (s : State) : Host.Outcome State Fault Refusal := .next (event (takePush value) s)

/-- R177. -/
def execPull (s : State) : Host.Outcome State Fault Refusal := .next (readEvent takePull s)

/-- R180, R209. -/
def execDmasrcWrite (value : Word) (s : State) : Host.Outcome State Fault Refusal :=
  .next (event (takeDmasrcWrite value) s)

/-- R181. -/
def execDackAccess (access : BusAccess) (s : State) : Host.Outcome State Fault Refusal :=
  match access with
  | .read => .next (readEvent dackRead s)
  | .write value => .next (event (dackWrite value) s)

end Sys2Proof.Machine
end

