-- ==== Sys2Proof/Machine/Dispatch.lean ====
section
/-! DEFINITION. One arm for each row of the opcode table. -/

namespace Sys2Proof.Machine

def exec (i : Instr) (s : State) : Host.Outcome State Fault Refusal :=
  match i with
  | .write value => Sys2Proof.Machine.execWrite value s
  | .writeStream value => Sys2Proof.Machine.execWriteStream value s
  | .writeMark value => Sys2Proof.Machine.execWriteMark value s
  | .eraseGap value => Sys2Proof.Machine.execEraseGap value s
  | .read value => Sys2Proof.Machine.execRead value s
  | .readStream value => Sys2Proof.Machine.execReadStream value s
  | .space value => Sys2Proof.Machine.execSpace value s
  | .spaceMarks value => Sys2Proof.Machine.execSpaceMarks value s
  | .locate value => Sys2Proof.Machine.execLocate value s
  | .rewind value => Sys2Proof.Machine.execRewind value s
  | .unload value => Sys2Proof.Machine.execUnload value s
  | .setOrdinal value => Sys2Proof.Machine.execSetOrdinal value s
  | .loadProfile value => Sys2Proof.Machine.execLoadProfile value s
  | .badCode value => Sys2Proof.Machine.execBadCode value s
  | .abort => Sys2Proof.Machine.execAbort s
  | .flush => Sys2Proof.Machine.execFlush s
  | .controlReset => Sys2Proof.Machine.execControlReset s
  | .pop => Sys2Proof.Machine.execPop s
  | .clearAttention unit => Sys2Proof.Machine.execClearAttention unit s
  | .registerWrite offset value => Sys2Proof.Machine.execRegisterWrite offset value s
  | .statusRead => Sys2Proof.Machine.execStatusRead s
  | .intenWrite value => Sys2Proof.Machine.execIntenWrite value s
  | .catselWrite value => Sys2Proof.Machine.execCatselWrite value s
  | .catinfoRead => Sys2Proof.Machine.execCatinfoRead s
  | .bufselWrite value => Sys2Proof.Machine.execBufselWrite value s
  | .bufptrWrite value => Sys2Proof.Machine.execBufptrWrite value s
  | .bufdataWrite value => Sys2Proof.Machine.execBufdataWrite value s
  | .bufdataRead => Sys2Proof.Machine.execBufdataRead s
  | .push value => Sys2Proof.Machine.execPush value s
  | .pull => Sys2Proof.Machine.execPull s
  | .dmasrcWrite value => Sys2Proof.Machine.execDmasrcWrite value s
  | .dackAccess access => Sys2Proof.Machine.execDackAccess access s
  | .hardwareReset => Sys2Proof.Machine.execHardwareReset s
  | .resetRelease => Sys2Proof.Machine.execResetRelease s
  | .presentRise unit => Sys2Proof.Machine.execPresentRise unit s
  | .presentFall unit => Sys2Proof.Machine.execPresentFall unit s
  | .readyRise unit => Sys2Proof.Machine.execReadyRise unit s
  | .readyFall unit => Sys2Proof.Machine.execReadyFall unit s
  | .loadPointRise unit => Sys2Proof.Machine.execLoadPointRise unit s
  | .endMarkerRise unit => Sys2Proof.Machine.execEndMarkerRise unit s
  | .endRise unit => Sys2Proof.Machine.execEndRise unit s
  | .writePermitChange unit level => Sys2Proof.Machine.execWritePermitChange unit level s
  | .rewindingRise unit => Sys2Proof.Machine.execRewindingRise unit s
  | .rewindingFall unit => Sys2Proof.Machine.execRewindingFall unit s
  | .atSpeedRise unit => Sys2Proof.Machine.execAtSpeedRise unit s
  | .atSpeedFall unit => Sys2Proof.Machine.execAtSpeedFall unit s
  | .movingFall unit => Sys2Proof.Machine.execMovingFall unit s
  | .echo unit => Sys2Proof.Machine.execEcho unit s
  | .distanceTick unit => Sys2Proof.Machine.execDistanceTick unit s
  | .frameClose => Sys2Proof.Machine.execFrameClose s
  | .atSpeedTimeout => Sys2Proof.Machine.execAtSpeedTimeout s
  | .acceptanceTimeout => Sys2Proof.Machine.execAcceptanceTimeout s
  | .stopTimeout => Sys2Proof.Machine.execStopTimeout s
  | .echoDeadline => Sys2Proof.Machine.execEchoDeadline s
  | .runBreak => Sys2Proof.Machine.execRunBreak s
  | .closeLimit => Sys2Proof.Machine.execCloseLimit s
  | .searchLimit => Sys2Proof.Machine.execSearchLimit s
  | .guardEnd => Sys2Proof.Machine.execGuardEnd s
  | .leaderEnd => Sys2Proof.Machine.execLeaderEnd s
  | .lcfPlace => Sys2Proof.Machine.execLcfPlace s
  | .drainDeadline => Sys2Proof.Machine.execDrainDeadline s
  | .trailerPlacement => Sys2Proof.Machine.execTrailerPlacement s
  | .trailerDeadline => Sys2Proof.Machine.execTrailerDeadline s
  | .rewriteGapEnd => Sys2Proof.Machine.execRewriteGapEnd s
  | .eraseEnd => Sys2Proof.Machine.execEraseEnd s
  | .endOfFinish => Sys2Proof.Machine.execEndOfFinish s
  | .startFromRest => Sys2Proof.Machine.execStartFromRest s
  | .nonMediumCommandExecution => Sys2Proof.Machine.execNonMediumCommandExecution s
  | .controlResetEffect => Sys2Proof.Machine.execControlResetEffect s
  | .readLanePulse unit lane strong => Sys2Proof.Machine.execReadLanePulse unit lane strong s
  | .halfPeriodPoint => Sys2Proof.Machine.execHalfPeriodPoint s
  | .liveLineChange unit change => Sys2Proof.Machine.execLiveLineChange unit change s

end Sys2Proof.Machine
end

