-- ==== Sys2Proof/Safety.lean ====
section
/-! DEFINITION. What a sound state of the block is, in the terms the statements use: six invariants of the manual's own promises,
and the condition under which a command meets the block with nothing in its way. -/

namespace Sys2Proof.Machine

/-- RESET is not asserted and no pending control reset has reached its point: a command is taken against the state as it stands
(R199, R201). -/
def State.undisturbed (s : State) : Bool := !s.hw.resetInput && !(s.hw.resetPending && s.resetPoint)

/-! ### Capacities (R149, R169, R175, R101, R186, R198) -/

/-- A record buffer: pointer and fill within 0 to 4096, contents in canonical form at indexes 0 to 4095 (R169). -/
abbrev RecordBuffer.ok (r : RecordBuffer) : Prop :=
  r.pointer ≤ Config.recordBytes ∧ r.fill ≤ Config.recordBytes ∧ r.contents.wf = true ∧
    (∀ c ∈ r.contents, c.1 < Config.recordBytes)

/-- The ring holds at most 8 records, and a record is held only while it holds 8 (R186). -/
abbrev CompletionUnit.ok (c : CompletionUnit) : Prop :=
  c.ring.length ≤ Config.ringSize ∧ (c.held.isSome = true → c.ring.length = Config.ringSize)

/-- Every queue, buffer and window within its capacity. -/
abbrev State.capacityOk (s : State) : Prop :=
  s.cu.queue.length ≤ Config.queueSize ∧ s.cmp.ok ∧ s.bu.buffers.b0.ok ∧ s.bu.buffers.b1.ok ∧
    s.bu.stream.length ≤ Config.streamSize ∧ s.vu.window.length ≤ Config.windowSize ∧
    s.hw.discards ≤ Config.discardLimit

/-! ### The catalogue (R123) -/

/-- At most 32 entries, the position within the count, an UNKNOWN catalogue empty at position 0, a FLOATING one not empty. -/
abbrev Catalogue.ok (c : Catalogue) : Prop :=
  c.entries.length ≤ Config.catalogueSize ∧ c.position ≤ c.entries.length ∧
    (c.state = .unknown → c.entries = []) ∧ (c.state = .floating → c.entries ≠ [])

abbrev State.cataloguesOk (s : State) : Prop :=
  (s.catalogue 0).ok ∧ (s.catalogue 1).ok ∧ (s.catalogue 2).ok ∧ (s.catalogue 3).ok

/-! ### Profiles (R36, R147) -/

/-- A head distance LOAD PROFILE may set. -/
abbrev headDistanceOk (n : Nat) : Prop := 12 ≤ n ∧ n ≤ 56

/-- Every profile has a head distance of 12 to 56 fp, and so has every LOAD PROFILE that waits. -/
abbrev State.profilesOk (s : State) : Prop :=
  headDistanceOk (s.link 0).profile.headDistance ∧ headDistanceOk (s.link 1).profile.headDistance ∧
    headDistanceOk (s.link 2).profile.headDistance ∧ headDistanceOk (s.link 3).profile.headDistance ∧
    ∀ c ∈ s.cu.queue, c.code = .loadProfile → headDistanceOk c.arg.toNat

/-! ### The course of an operation (R21, R44, R45, R186) -/

/-- A unit is selected exactly while the OC is out of IDLE; the gate is ON only with a unit selected; in IDLE the Phase Timer is zero
and stopped, its phase count runs in every operation and FINISH, and in STOPPING no distance and no deadline is left; while an
operation is active no completion is held. -/
abbrev State.operationOk (s : State) : Prop :=
  (s.tlc.selected = none ↔ s.oc = .idle) ∧ (s.fw.gate = true → s.tlc.selected ≠ none) ∧
    (s.oc = .idle → s.timer = .stopped) ∧ (s.oc ≠ .idle ∧ s.oc ≠ .stopping → s.timer.phase.isSome = true) ∧
    (s.oc = .stopping → s.timer.target = none ∧ s.timer.deadline = none) ∧ (s.active.isSome = true → s.cmp.held = none)

/-! ### Tags (R148) -/

/-- The tags carried by the queue, the active command, the ring and the held completion. -/
def State.carriedTags (s : State) : List Tag :=
  s.cu.queue.map Command.tag ++ (s.active.map fun a => a.cmd.tag).toList ++
    s.cmp.ring.map Completion.tag ++ (s.cmp.held.map Completion.tag).toList

/-- The tags the last `n` GOs were given, oldest first. -/
def tagsBefore (counter : Tag) : Nat → List Tag
  | 0 => []
  | n + 1 => (counter - BitVec.ofNat 4 (n + 1)) :: tagsBefore counter n

/-- The carried tags are pairwise distinct, and the queue's, at most 4, are the latest given. -/
abbrev State.tagsOk (s : State) : Prop :=
  s.carriedTags.Nodup ∧ s.cu.queue.length ≤ Config.queueSize ∧
    s.cu.queue.map Command.tag = tagsBefore s.cu.tagCounter s.cu.queue.length

/-! ### Buffer owners (R170) -/

/-- The commands in the queue or active that name a buffer. -/
def State.owners (s : State) (b : BufferId) : List Command :=
  (s.cu.queue ++ (s.active.map Active.cmd).toList).filter fun c => c.code.namesBuffer && decide (c.buffer = b)

/-- A buffer is COMMITTED exactly when one command in the queue or active names it. -/
abbrev State.ownersOk (s : State) : Prop :=
  (s.owners 0).length = (if (s.bu.buffer 0).committed then 1 else 0) ∧
    (s.owners 1).length = (if (s.bu.buffer 1).committed then 1 else 0)

/-! ### Words of the statements -/

/-- The row of a GO: the command code staged, and the word written to SUBMIT (R146). -/
def goRow : Option CommandCode → Word → Instr
  | some .write => .write
  | some .writeStream => .writeStream
  | some .writeMark => .writeMark
  | some .eraseGap => .eraseGap
  | some .read => .read
  | some .readStream => .readStream
  | some .space => .space
  | some .spaceMarks => .spaceMarks
  | some .locate => .locate
  | some .rewind => .rewind
  | some .unload => .unload
  | some .setOrdinal => .setOrdinal
  | some .loadProfile => .loadProfile
  | none => .badCode

/-- The rows that give a GO: the fourteen of the commands and a write to SUBMIT by its offset (R146). -/
def isGo : Instr → Bool
  | .write _ | .writeStream _ | .writeMark _ | .eraseGap _ | .read _ | .readStream _ | .space _ | .spaceMarks _ | .locate _
  | .rewind _ | .unload _ | .setOrdinal _ | .loadProfile _ | .badCode _ => true
  | .registerWrite offset _ => decide (wordOffset offset = 0x0C)
  | _ => false

/-- The rows that put a word on the bus. -/
def readsWord : Instr → Bool
  | .statusRead | .catinfoRead | .bufdataRead | .pull | .dackAccess .read => true
  | _ => false

/-- The rows the block takes in any state: the RESET input and the changes of the status lines, which the TLC follows (R20). -/
def takenInReset : Instr → Bool
  | .hardwareReset | .resetRelease | .presentRise _ | .presentFall _ | .readyRise _ | .readyFall _ | .loadPointRise _
  | .endMarkerRise _ | .endRise _ | .writePermitChange _ _ | .rewindingRise _ | .rewindingFall _ | .atSpeedRise _
  | .atSpeedFall _ | .movingFall _ | .liveLineChange _ _ => true
  | _ => false

/-- The active command `a` is posted with this outcome: one completion that carries its tag, code and unit enters the ring or the
held slot, its buffer returns to OPEN, and the queue is left as it stands (R154, R170, R185). -/
def posted (a : Active) (o : CmdOutcome) (s t : State) : Prop :=
  (∃ r : Completion, r.tag = a.cmd.tag ∧ r.code = a.cmd.code ∧ r.unit = a.cmd.unit ∧ r.outcome = o ∧
      t.cmp = s.cmp.place r) ∧
    (a.cmd.code.namesBuffer = true → (t.bu.buffer a.cmd.buffer).committed = false) ∧ t.cu = s.cu

/-- The conditions that an open received record has from its header run are qualifiers of the completion (R159, R184, log 39). -/
def carriesOpenRecord (a : Active) (s t : State) : Prop :=
  ∀ o, s.fr.record = some o → o.received = true → ∀ r, t.cmp = s.cmp.place r →
    r.qualifiers.overrun = (a.qualifiers.overrun || o.overrun) ∧
      r.qualifiers.lengthExcess = (a.qualifiers.lengthExcess || o.lengthExcess) ∧
      r.qualifiers.longRecord = (a.qualifiers.longRecord || (o.header.map Header.long).getD false)

/-- The selected unit is under way: RAMPING or RUNNING (R27). -/
def State.underWay (s : State) (u : UnitId) : Prop :=
  (s.link u).state = .ramping ∨ (s.link u).state = .runningForward ∨ (s.link u).state = .runningReverse

/-- The medium is stopped (R27, R58, R59, R195): the OC is STOPPING, or IDLE with nothing selected. A unit under way with MOVING high
has been sent STOP and is STOPPING with the stop timer running; one under way with MOVING low has been sent STOP and its stop is
complete; one STOPPING already goes on as it was, with no further STOP. -/
def stops (s t : State) : Prop :=
  (t.oc = .stopping ∨ (t.oc = .idle ∧ t.tlc.selected = none)) ∧
    ∀ u, s.tlc.selected = some u →
      (s.underWay u → (s.link u).lines.moving = true →
        t.oc = .stopping ∧ t.tlc.selected = some u ∧ (t.link u).state = .stopping ∧ t.tlc.request = some .stop ∧
          t.tlc.stopTimer = true) ∧
      (s.underWay u → (s.link u).lines.moving = false →
        t.oc = .idle ∧ (t.link u).state = .idle ∧ t.tlc.request = some .stop ∧ t.tlc.stopTimer = false) ∧
      ((s.link u).state = .stopping →
        t.oc = .stopping ∧ t.tlc.selected = some u ∧ (t.link u).state = .stopping ∧ t.tlc.request = s.tlc.request ∧
          t.tlc.stopTimer = s.tlc.stopTimer)

/-- The operation is posted with its outcome and the medium is stopped (R58, R59). -/
def endsInStop (a : Active) (o : CmdOutcome) (s t : State) : Prop := posted a o s t ∧ stops s t

/-- The operation ends in FINISH with this distance (R56). -/
def endsInFinish (a : Active) (o : CmdOutcome) (distance : Nat) (s t : State) : Prop :=
  posted a o s t ∧
    t.oc = .finishing { unit := a.cmd.unit, writeClass := a.cmd.code.writeClass, reverse := a.reverse } ∧
    t.timer = { phase := some 0, target := some distance, deadline := none }

/-! ### What a control reset leaves (R80, R100, R122, R168, R170, R191, R193, R200) -/

/-- Queue, ring and held slot are empty, the buffers OPEN with what they hold, the stream queue empty, the flags of the Host Window clear
but for RESET DONE, and the accounts of the Verify Unit, the Frame Reader and the Frame Writer empty. -/
def resetClears (s t : State) : Prop :=
  t.cu = { s.cu with queue := [] } ∧ t.cmp = { ring := [], held := none } ∧
    t.hw =
      { s.hw with
        accessRefused := false, streamRefused := false, abortIgnored := false, resetPending := false,
        resetDone := true, discards := 0 } ∧
    t.bu.stream = [] ∧ t.bu.delivery = false ∧ t.bu.dma = s.bu.dma ∧ t.bu.select = s.bu.select ∧
    (∀ b : BufferId, t.bu.buffer b = { s.bu.buffer b with committed := false }) ∧
    t.vu =
      { state := .idle, window := [], copyFailure := none, trailerFailure := none, soft := false, blankNotice := false,
        reported := none, corrected := 0, marginal := 0, skew := 0 } ∧
    t.fr.account =
      { corrected := 0, marginal := 0, skew := 0, fragments := false, voids := 0, receiving := false,
        stopped := false } ∧
    t.fw.watch = none ∧ t.fw.acc = 0 ∧ t.fw.account = none

/-- The reset has taken effect: the command side is cleared with no completion posted, the medium is stopped, the Phase Timer is zero
and stopped. -/
def resetTaken (s t : State) : Prop := resetClears s t ∧ stops s t ∧ t.timer = .stopped

/-! ### Copies and records as they are reported (R77, R93) -/

/-- A written copy as it is reported with this trailer, its condition from its verdict (R77). -/
def writtenRecord (a : Active) (x : CopyAccount) (k : Trailer) : RecordInfo :=
  { ident := some { ordinal := x.ordinal, copy := BitVec.ofNat 3 x.copy }, kind := x.kind, length := x.dataFrames,
    long := false, trailer := k,
    condition :=
      match a.verdict with
      | none => .unchecked
      | some (true, false) => .clean
      | some (true, true) => .corrected
      | some (false, _) => .damaged }

/-- The copy in the account ends so, and enters the catalogue as a record written forward with this trailer (R78, R114, R128, R134). -/
def copyDescribed (a : Active) (ending : CopyEnding) (k : Trailer) (s t : State) : Prop :=
  ∀ x, s.fw.account = some x →
    t.fw = { s.fw with account := some { x with ended := ending } } ∧
      t.rc = (placeForward a.cmd.unit (writtenRecord a x k) x.passed s).rc

/-- The copy that the gate drop cuts: the gate is ON, the reader in READBACK, and the copy in progress. -/
def State.cutsCopy (s : State) (x : CopyAccount) : Prop :=
  s.fw.gate = true ∧ s.fr.mode = .readback ∧ s.fw.account = some x ∧ x.ended = .inProgress

/-- A copy the gate drop cuts enters the catalogue unsealed, with the passed mark it has (R58, R65, R78, R134; log 45). -/
def copyPlaced (a : Active) (s t : State) : Prop :=
  ∀ x, s.cutsCopy x → t.rc = (placeForward a.cmd.unit (writtenRecord a x .none) x.passed s).rc

/-- Its account ends unsealed, the Verify Unit goes IDLE and empty with no verdict, and the first failure it had recorded is the one the
completion carries (R65, R118). -/
def copyCut (a : Active) (s t : State) : Prop :=
  copyPlaced a s t ∧
    ∀ x, s.cutsCopy x →
      let first : Option FailureKind :=
        match s.vu.state with
        | .idle => none
        | .listening => s.vu.copyFailure
        | .trailerCheck => s.vu.trailerFailure
      t.fw.account = some { x with ended := .unsealed } ∧ t.vu.state = .idle ∧
        (s.vu.state ≠ .idle → t.vu.window = []) ∧
        t.vu.reported = (match first with | some k => some k | none => s.vu.reported) ∧
        ∀ r, t.cmp = s.cmp.place r → r.failure = (if a.cmd.code.writeClass then t.vu.reported else none)

/-- The record of this header has DATA CHECK at its close: a longitudinal mismatch, an unreadable frame, a bad header or a malformed
record, in check manner (R93). -/
def State.badRecord (s : State) (h : Header) : Bool :=
  decide (s.fr.manner = .check) && (decide (s.fr.acc ≠ 0) || h.unreadable || h.bad || h.malformed)

/-- A record as it is reported at its close with this trailer (R93, R94). -/
def State.readRecord (s : State) (h : Header) (k : Trailer) : RecordInfo :=
  { ident := h.ident, kind := h.kind, length := h.length, long := h.long, trailer := k,
    condition :=
      if s.fr.manner = .pass then .unchecked
      else if s.badRecord h then .damaged
      else if h.soft then .corrected
      else .clean }

/-- The records passed once a record of this trailer has closed to the command: a READ or READ STREAM counts the records it receives, a
SPACE or SPACE MARKS those that are not void, a LOCATE all but the record of TURN; the count stops at 4095 (R154, log 19). -/
def Active.passedAfter (a : Active) (k : Trailer) (received : Bool) : Nat :=
  let counts : Bool :=
    match a.cmd.code with
    | .read | .readStream => received
    | .space | .spaceMarks => decide (k ≠ .void)
    | .locate => decide (a.phase ≠ .turnStop) && decide (a.phase ≠ .turnRamp) && decide (a.phase ≠ .turnPass)
    | _ => false
  if counts then min (a.passed + 1) 4095 else a.passed

/-- The completion `r` of a read-class command at the close of a record: the ordinal and the records passed of R154, LONG RECORD, and,
for the record received, the conditions that the outcome outranks, none beside an outcome of its own name (R97, R184). -/
def carriesClose (a : Active) (o : OpenRecord) (h : Header) (k : Trailer) (outcome : CmdOutcome) (s : State)
    (r : Completion) : Prop :=
  (a.cmd.code.readClass = true →
    r.passed = a.passedAfter k o.received ∧
      ((a.cmd.code = .read ∨ a.cmd.code = .readStream) → o.received = false → r.ordinal = a.ordinal) ∧
      ((a.cmd.code = .read ∨ a.cmd.code = .readStream) → o.received = true → r.ordinal = h.ident.map Ident.ordinal) ∧
      (a.cmd.code ≠ .read → a.cmd.code ≠ .readStream → r.ordinal = h.ident.map Ident.ordinal)) ∧
    r.qualifiers.longRecord = (a.qualifiers.longRecord || h.long) ∧
    (o.received = true →
      r.qualifiers.unsealed = (decide (outcome ≠ .unsealed) && (a.qualifiers.unsealed || decide (k = .none))) ∧
        r.qualifiers.dataCheck = (decide (outcome ≠ .dataCheck) && (a.qualifiers.dataCheck || s.badRecord h)) ∧
        r.qualifiers.overrun = (decide (outcome ≠ .overrun) && (a.qualifiers.overrun || o.overrun)) ∧
        r.qualifiers.lengthExcess = (decide (outcome ≠ .lengthExcess) && (a.qualifiers.lengthExcess || o.lengthExcess)))

/-- A record open going forward, with the gate OFF and no run in progress, is closed unsealed and placed by END and by loss of speed
(R95). -/
def recordPlaced (s t : State) : Prop :=
  ∀ u o h, s.tlc.selected = some u → s.fw.gate = false → s.fr.mode = .parse false → s.fr.run = none → s.fr.record = some o →
    o.header = some h → t.fr.record = none ∧ t.rc = (placeForward u (s.readRecord h .none) false s).rc

/-- Such a record gives its conditions to the completion of the command (R58, R95). -/
def recordCut (a : Active) (outcome : CmdOutcome) (s t : State) : Prop :=
  ∀ o h, s.fr.mode = .parse false → s.fr.run = none → s.fr.record = some o → o.header = some h →
    ∀ r, t.cmp = s.cmp.place r → carriesClose a o h .none outcome s r

/-- An event of R95 that ends the run in progress takes a frame still being assembled with it: it does what it does where that frame has
joined the run with the value it has so far, no byte handed on, LENGTH EXCESS marked beyond COUNT (R14, R87; log 21: the model's
choice). -/
def endsRunWithOpenFrame (i : Instr) (s : State) : Prop :=
  ∀ (x : Assembly) (r : Run) (reverse : Bool), s.fr.mode = .parse reverse → s.fr.frame = some x → x.handed = false →
    s.fr.run = some r →
    exec i s =
      exec i
        { s with
          fr :=
            { s.fr with
              frame := some { x with handed := true }
              run :=
                some
                  { r.join (selectFrame x) with
                    lengthExcess :=
                      r.lengthExcess ||
                        (match s.oc with
                         | .active a => r.eligible && decide (3 ≤ r.length) && decide (a.cmd.count ≤ r.length - 3)
                         | _ => false) } } }

/-- The verdict on a copy, with this first failure and this soft mark, is taken: the Verify Unit is IDLE and empty, and the trailer is
ordered 4 fp on, a commit trailer on a pass with no ABORT and no CONTROL RESET waiting, and else a void one (R50, R111, R196, R199). -/
def givesVerdict (a : Active) (failure : Option FailureKind) (soft : Bool) (s t : State) : Prop :=
  let commits : Bool := failure.isNone && !a.abortMark && !s.hw.resetPending
  t.vu.state = .idle ∧ t.vu.window = [] ∧
    t.vu.reported = (match failure with | some k => some k | none => s.vu.reported) ∧
    t.timer = { phase := some 0, target := some 4, deadline := none } ∧ t.cmp = s.cmp ∧ t.fw = s.fw ∧ t.rc = s.rc ∧
    ∃ b, t.oc = .active b ∧
      b =
        { a with
          verdict := some (failure.isNone, soft), phase := if commits then .trailer .commit else .trailer .void,
          voidOutcome := b.voidOutcome } ∧
      (s.hw.resetPending = false →
        b.voidOutcome = if commits then .done else if a.abortMark then .aborted else .verifyFailed)

/-- What a close with this header and trailer means to a SPACE, SPACE MARKS or LOCATE (R53, R54, R161 to R165): the command completes in
FINISH with its records passed and the record's ordinal, it goes on in the phase `next`, or, at the target of a search, it enters TURN
with STOP sent to the moving unit. In SEARCH the search count starts from zero, in RAMP it waits for AT SPEED (R17, R48), and that it
stands in the stop of TURN is the model's choice (log 48). `s` is the state before the close and `t` the one after it. -/
def closeCounts (a : Active) (h : Header) (k : Trailer) (next : Phase) (s t : State) : Prop :=
  let ordinal := h.ident.map Ident.ordinal
  let q : Qualifiers := { a.qualifiers with longRecord := a.qualifiers.longRecord || h.long }
  let n := min (a.passed + 1) 4095
  let seen : Active := { a with ordinal := ordinal, qualifiers := q }
  let counted : Active := { seen with passed := n }
  let goesOn (b : Active) : Prop :=
    t.oc = .active { b with phase := next } ∧ (next = .search → t.fr.search = some 0) ∧
      (next = .ramp → t.fr.search = none) ∧ t.cmp = s.cmp ∧ t.cu = s.cu ∧ t.bu = s.bu
  let completes (o : CmdOutcome) : Prop :=
    endsInFinish a o 16 s t ∧
      ∀ r, t.cmp = s.cmp.place r → r.passed = n ∧ r.ordinal = ordinal ∧ r.qualifiers.longRecord = q.longRecord
  (a.cmd.code = .space →
    (k = .void → goesOn seen) ∧
    (k ≠ .void → h.kind = .mark → completes .mark) ∧
    (k ≠ .void → h.kind = .data → a.cmd.count ≤ n → completes .done) ∧
    (k ≠ .void → h.kind = .data → n < a.cmd.count → goesOn counted)) ∧
  (a.cmd.code = .spaceMarks →
    (k = .void → goesOn seen) ∧
    (k ≠ .void → h.kind = .mark → a.cmd.count ≤ a.marks + 1 → completes .done) ∧
    (k ≠ .void → h.kind = .mark → a.marks + 1 < a.cmd.count → goesOn { counted with marks := a.marks + 1 }) ∧
    (k ≠ .void → h.kind = .data → goesOn counted)) ∧
  (a.cmd.code = .locate →
    (∀ m rev, a.plan = some (.space m rev) → (m ≤ n → completes .done) ∧ (n < m → goesOn counted)) ∧
    (a.plan = some .search →
      (ordinal = some a.cmd.arg → k ≠ .void →
        ∀ u, s.tlc.selected = some u → s.underWay u → (s.link u).lines.moving = true →
          t.oc = .active { counted with phase := .turnStop } ∧ t.tlc.selected = some u ∧
            (t.link u).state = .stopping ∧ t.tlc.request = some .stop ∧ t.tlc.stopTimer = true ∧ t.fr.search = none ∧
            t.cmp = s.cmp ∧ t.cu = s.cu ∧ t.bu = s.bu) ∧
      ((ordinal ≠ some a.cmd.arg ∨ k = .void) →
        ((a.endRisen = true ∨ a.cmd.count ≤ n) → completes .notFound) ∧
        (a.endRisen = false → n < a.cmd.count → goesOn counted))))

/-- The frame reader has nothing open and no limit to count. -/
def State.quietReader (s : State) : Prop :=
  s.fr.frame = none ∧ s.fr.run = none ∧ s.fr.record = none ∧ s.fr.search = none

/-- The frame reader and the limits have nothing to do at the next tick: nothing open, no frame awaited and no deadline. -/
def State.quietMedium (s : State) : Prop := s.quietReader ∧ s.fw.watch = none ∧ s.timer.deadline = none

end Sys2Proof.Machine
end

