-- ==== Sys2Proof/Certificates/Slice0/Obligations.lean ====
section
/-! DEFINITION. The statements for the provers: what each command of the table does, what the Record Catalogue makes of a record,
and the promises every step keeps. The words they use (`State.undisturbed`, `posted`, `endsInStop`, `endsInFinish`, `stops`,
`resetTaken`, `writtenRecord`, `copyDescribed`, `copyCut`, `State.readRecord`, `carriesClose`, `recordCut`, `givesVerdict`, `closeCounts`,
`State.quietMedium`, `endsRunWithOpenFrame`, `goRow`, the six invariants) stand in Sys2Proof/Safety.lean. -/

open Sys2Proof Sys2Proof.Machine

/-! ### The step -/

/-- The block takes the command at the front of its queue and leaves the rest waiting; with none it idles (log 2: the model's). -/
def Obligations.StepTakesFrontOrIdles : Prop :=
  (∀ (c : Instr) (rest : List Instr) (s : State), s.pending = c :: rest → step s = exec c { s with pending := rest }) ∧
  (∀ s : State, s.pending = [] → step s = .next s)

/-- Every command of the table is taken: the step goes on, and the commands that wait are left as they were. That a row whose event
cannot happen still answers a next state (log 10), and that the model has a queue of waiting commands which no command touches
(log 2), are the model's choices. -/
def Obligations.EveryCommandIsTaken : Prop :=
  ∀ (c : Instr) (s : State), ∃ t, exec c s = .next t ∧ t.pending = s.pending

/-- R201: while RESET is asserted every block is held: a command changes nothing, and a read returns 0. The changes of the status
lines and the RESET input itself are the rows left out. -/
def Obligations.AssertedResetHoldsEveryBlock : Prop :=
  ∀ (c : Instr) (s : State), s.hw.resetInput = true → takenInReset c = false →
    exec c s = .next (if readsWord c then { s with hw := { s.hw with dataOut := 0 } } else s)

/-- R199: "at once" is before anything else: a pending control reset whose point is reached takes effect first (log 8: the
model's reading). What that effect is, the statement of the row CONTROL_RESET_EFFECT says. The rows left out are those of the RESET
input and the lines, and a GO, which finds the reset still pending (R148). -/
def Obligations.DueControlResetComesFirst : Prop :=
  ∀ (c : Instr) (s : State), s.hw.resetInput = false → s.hw.resetPending = true → s.resetPoint = true →
    takenInReset c = false → isGo c = false → ∃ t, exec .controlResetEffect s = .next t ∧ exec c s = exec c t

/-! ### The promises every step keeps -/

/-- The state after reset keeps all six promises. -/
def Obligations.ResetStateIsSound : Prop :=
  State.reset.capacityOk ∧ State.reset.cataloguesOk ∧ State.reset.profilesOk ∧ State.reset.operationOk ∧
    State.reset.tagsOk ∧ State.reset.ownersOk

/-- Every queue, ring, buffer and window keeps within its capacity, and the buffers their canonical form. -/
def Obligations.CapacitiesKeptByEveryStep : Prop :=
  ∀ s t : State, s.capacityOk → step s = .next t → t.capacityOk

/-- R123: every catalogue stays one of the three kinds, its position within its count. -/
def Obligations.CataloguesKeptByEveryStep : Prop :=
  ∀ s t : State, s.cataloguesOk → step s = .next t → t.cataloguesOk

/-- R36, R147: every profile's head distance stays within 12 to 56. -/
def Obligations.ProfilesKeptByEveryStep : Prop :=
  ∀ s t : State, s.profilesOk → step s = .next t → t.profilesOk

/-- R21, R44, R45, R186: a unit is selected exactly out of IDLE, the gate is ON only with a unit selected, the Phase Timer is zero and
stopped in IDLE, its phase count runs in every operation and FINISH, no distance and no deadline is left in STOPPING (that a STOPPING
has no target is the model's reading, log 34), and no operation is active while a completion is held. -/
def Obligations.OperationCourseKeptByEveryStep : Prop :=
  ∀ s t : State, s.operationOk → step s = .next t → t.operationOk

/-- R148: the carried tags stay pairwise distinct. -/
def Obligations.TagsStayDistinctInEveryStep : Prop :=
  ∀ s t : State, s.tagsOk → step s = .next t → t.tagsOk

/-- R170: a buffer stays COMMITTED exactly while one command in the queue or active names it. -/
def Obligations.BufferOwnersKeptByEveryStep : Prop :=
  ∀ s t : State, s.ownersOk → step s = .next t → t.ownersOk

/-! ### GO (R146 to R148) -/

/-- R146 to R148, R205, R206: a GO that passes every check takes the counter's tag and joins the tail; WRITE and READ commit their
buffer. The fields staged and the command they form, the ranges of COUNT and ARG, and the SUBMIT word are said field by field; that a
field its command does not use is zero is the model's way of not keeping it. -/
def Obligations.AcceptedGoQueuesTheStagedCommand : Prop :=
  (∀ (code : CommandCode) (v : Word) (s : State), s.undisturbed = true → s.hw.code = some code →
    s.cu.queue.length < 4 → s.tagCarried s.cu.tagCounter = false → s.hw.resetPending = false →
    countInRange s.hw code = true → argInRange s.hw code = true →
    (code.namesBuffer = true → (s.bu.buffer s.hw.buffer).committed = false) →
    exec (goRow (some code) v) s = .next
      { s with
        cu :=
          { queue := s.cu.queue ++ [stagedCommand s.hw code s.cu.tagCounter], tagCounter := s.cu.tagCounter + 1,
            lastTag := s.cu.tagCounter, result := .accepted }
        bu :=
          if code = .write ∨ code = .read then
            s.bu.setBuffer s.hw.buffer { s.bu.buffer s.hw.buffer with committed := true }
          else s.bu }) ∧
  (∀ (code : CommandCode) (hw : HostWindow),
    hw.code = some code ↔
      (hw.cmd.extractLsb' 0 4).toNat =
        (match code with
         | .write => 1
         | .writeStream => 2
         | .writeMark => 3
         | .eraseGap => 4
         | .read => 5
         | .readStream => 6
         | .space => 7
         | .spaceMarks => 8
         | .locate => 9
         | .rewind => 10
         | .unload => 11
         | .setOrdinal => 12
         | .loadProfile => 13)) ∧
  (∀ (code : CommandCode) (tag : Tag) (hw : HostWindow),
    stagedCommand hw code tag =
      { tag := tag, code := code, unit := (hw.cmd.extractLsb' 4 2).toFin
        reverse := if code = .space ∨ code = .spaceMarks then hw.cmd.getLsbD 6 else false
        count :=
          if code = .writeMark ∨ code = .rewind ∨ code = .unload ∨ code = .setOrdinal ∨ code = .loadProfile then 0
          else hw.count.toNat
        arg := if code = .locate ∨ code = .setOrdinal ∨ code = .loadProfile then hw.arg else 0
        retry := if code = .write ∨ code = .writeMark then (hw.mode.extractLsb' 0 3).toNat else 0
        buffer := if code = .write ∨ code = .read then hw.buffer else 0
        strict := if code = .loadProfile then hw.mode.getLsbD 4 else false
        weakStart := if code = .loadProfile then hw.mode.getLsbD 5 else false } ∧
    hw.buffer.val = (if hw.mode.getLsbD 3 then 1 else 0) ∧
    (code.namesBuffer = true ↔ code = .write ∨ code = .read) ∧
    (countInRange hw code = true ↔
      (match code with
       | .write | .writeStream | .read | .readStream => 1 ≤ hw.count.toNat ∧ hw.count.toNat ≤ 4096
       | .eraseGap => 1 ≤ hw.count.toNat ∧ hw.count.toNat ≤ 40
       | .space | .spaceMarks | .locate => 1 ≤ hw.count.toNat ∧ hw.count.toNat ≤ 4095
       | .writeMark | .rewind | .unload | .setOrdinal | .loadProfile => True)) ∧
    (argInRange hw code = true ↔ (code = .loadProfile → 12 ≤ hw.arg.toNat ∧ hw.arg.toNat ≤ 56))) ∧
  (∀ s : State, s.hw.resetInput = false →
    (readWord 0x0C s).extractLsb' 0 4 = s.cu.lastTag ∧
      ((readWord 0x0C s).extractLsb' 8 3).toNat =
        (match s.cu.result with
         | .none => 0
         | .accepted => 1
         | .queueFull => 2
         | .resetPending => 3
         | .badCode => 4
         | .badCount => 5
         | .badArgument => 6
         | .bufferBusy => 7) ∧
      readWord 0x0C s &&& 0xF8F0#16 = 0)

/-- R147, R148: the first check that fails gives the reason, and a refused GO changes the read-back alone. A control reset that is
pending refuses the GO, its point reached or not. -/
def Obligations.RefusedGoGivesTheFirstReason : Prop :=
  ∀ (code : Option CommandCode) (v : Word) (s : State), s.hw.resetInput = false → s.hw.code = code →
    let full : Prop := 4 ≤ s.cu.queue.length ∨ s.tagCarried s.cu.tagCounter = true
    let refusedWith (r : SubmitResult) : Prop :=
      exec (goRow code v) s = .next { s with cu := { s.cu with result := r } }
    (full → refusedWith .queueFull) ∧
    (¬full → s.hw.resetPending = true → refusedWith .resetPending) ∧
    (¬full → s.hw.resetPending = false → code = none → refusedWith .badCode) ∧
    (∀ k, code = some k → ¬full → s.hw.resetPending = false →
      (countInRange s.hw k = false → refusedWith .badCount) ∧
      (countInRange s.hw k = true → argInRange s.hw k = false → refusedWith .badArgument) ∧
      (countInRange s.hw k = true → argInRange s.hw k = true → k.namesBuffer = true →
        (s.bu.buffer s.hw.buffer).committed = true → refusedWith .bufferBusy))

/-! ### Actions (Chapter 11, R187, R189) -/

/-- R194, R196, R197: ABORT with no active command, with the mark already set, inside a record, and inside a copy; R117: what the skip
notice of a cut run leaves of the Verify Unit. -/
def Obligations.AbortIsAnsweredByPhase : Prop :=
  ∀ s : State, s.undisturbed = true →
    (s.active = none → exec .abort s = .next { s with hw := { s.hw with abortIgnored := true } }) ∧
    (∀ a : Active, s.oc = .active a →
      (a.abortMark = true → exec .abort s = .next s) ∧
      (a.abortMark = false →
        let marked := { a with abortMark := true }
        ((a.phase = .record ∨ ((a.phase = .turnRamp ∨ a.phase = .turnPass) ∧ s.fr.record.isSome = true)) →
          exec .abort s = .next
            { s with
              oc := .active marked
              fr := { s.fr with account := { s.fr.account with stopped := true } } }) ∧
        ((a.phase = .checkSpace ∨ a.phase = .lcf ∨ a.phase = .drain ∨ a.phase = .trailer .void) →
          exec .abort s = .next { s with oc := .active marked }) ∧
        ((a.phase = .trailer .commit ∨ a.phase = .trailerCheck) →
          exec .abort s = .next { s with oc := .active { marked with abortLate := true } }) ∧
        (a.phase = .headerData →
          exec .abort s = .next
            { s with
              oc := .active { marked with skipped := true, phase := .checkSpace }
              timer := { s.timer with phase := some 0, target := some 4 }
              fw := { s.fw with account := s.fw.account.map fun x => { x with cut := some .abort } }
              vu := s.vu.skipNotice }))) ∧
    (∀ v : VerifyUnit,
      v.skipNotice =
        if v.state = .listening then
          { v with
            state := .idle, window := [], blankNotice := false,
            reported := (match v.copyFailure with | some k => some k | none => v.reported) }
        else v)

/-- R195: before the medium carries any part of the work, and in ACCEPTANCE, ABORT posts ABORTED and stops with no finishing
distance: STOP is sent, and a moving unit is STOPPING with the stop timer running (R27); in ERASE and REWRITE GAP it posts ABORTED and
FINISH follows (R51, R52). The gate keeps its level until the stop is complete. A record a READ has open in RAMP gives its conditions
(R159, log 39), and a READ or READ STREAM the bytes it has been given (R174, R179; log 47: the model's choice). RAMP with a record open
(log 18), the reverse pass of TURN at speed (log 40) and the 16 fp after REWRITE GAP (log 22) are the model's readings. -/
def Obligations.AbortBeforeTheWorkStopsAtOnce : Prop :=
  ∀ (a : Active) (s : State), s.undisturbed = true → s.oc = .active a → a.abortMark = false →
    ((a.phase = .ramp ∨ a.phase = .leader ∨ a.phase = .guard ∨ a.phase = .search ∨ a.phase = .turnStop ∨
        a.phase = .acceptance ∨ ((a.phase = .turnRamp ∨ a.phase = .turnPass) ∧ s.fr.record = none)) →
      ∃ t, exec .abort s = .next t ∧ endsInStop a .aborted s t ∧ (t.oc = .stopping → t.fw = s.fw ∧ t.rc = s.rc) ∧
        carriesOpenRecord a s t ∧
        ∀ r, t.cmp = s.cmp.place r → (a.cmd.code = .read ∨ a.cmd.code = .readStream) →
          r.byteCount = a.bytes ∧ r.ordinal = a.ordinal ∧ r.passed = a.passed) ∧
    ((a.phase = .erase ∨ a.phase = .rewriteGap) →
      ∃ t, exec .abort s = .next t ∧ endsInFinish a .aborted 16 s t ∧ t.fw = s.fw ∧ t.tlc = s.tlc ∧ t.rc = s.rc)

/-- R198: FLUSH empties the queue, frees the buffers its commands name, adds their number to the discard count and deals with the
stream queue; the tag counter, the active command and the buffers' contents stay. -/
def Obligations.FlushDiscardsTheQueue : Prop :=
  ∀ s : State, s.undisturbed = true →
    ∃ t, exec .flush s = .next t ∧
      t = { s with
            cu := { s.cu with queue := [] }
            hw := { s.hw with discards := min (s.hw.discards + s.cu.queue.length) 15 }
            bu := t.bu } ∧
      (∀ c ∈ s.cu.queue, c.code.namesBuffer = true → (t.bu.buffer c.buffer).committed = false) ∧
      (∀ b : BufferId,
        (t.bu.buffer b).contents = (s.bu.buffer b).contents ∧ (t.bu.buffer b).pointer = (s.bu.buffer b).pointer ∧
          (t.bu.buffer b).fill = (s.bu.buffer b).fill ∧
          ((∀ c ∈ s.cu.queue, c.code.namesBuffer = true → c.buffer ≠ b) →
            (t.bu.buffer b).committed = (s.bu.buffer b).committed)) ∧
      ((s.activeIs .writeStream = false ∧ s.bu.delivery = false) → t.bu.stream = []) ∧
      ((s.activeIs .writeStream = true ∨ s.bu.delivery = true) →
        t.bu.stream = s.bu.stream ∧ t.bu.delivery = s.bu.delivery) ∧
      t.bu.select = s.bu.select ∧ t.bu.dma = s.bu.dma

/-- R191, R199: CONTROL RESET is taken at once and shown as RESET PENDING; that its effect is a later row is the model's reading
(log 8). The points it waits for are those of the table of R199; that the first fp after a chain is none of them is log 12's. -/
def Obligations.ControlResetIsHeldPending : Prop :=
  (∀ s : State, s.undisturbed = true →
    exec .controlReset s = .next { s with hw := { s.hw with resetPending := true } }) ∧
  ∀ s : State,
    ((∀ a, s.oc ≠ .active a) → s.resetPoint = true) ∧
    (∀ a, s.oc = .active a →
      ((a.phase = .headerData ∨ a.phase = .checkSpace ∨ a.phase = .lcf ∨ a.phase = .drain ∨
          (∃ k, a.phase = .trailer k) ∨ a.phase = .record) → s.resetPoint = false) ∧
      ((a.phase = .turnRamp ∨ a.phase = .turnPass) → (s.resetPoint = true ↔ s.fr.record = none)) ∧
      ((a.phase = .trailerCheck ∨ a.phase = .rewriteGap ∨ a.phase = .acceptance ∨ a.phase = .ramp ∨ a.phase = .leader ∨
          a.phase = .guard ∨ a.phase = .erase ∨ a.phase = .search ∨ a.phase = .turnStop ∨ a.phase = .chained) →
        s.resetPoint = true))

/-- R200: what the effect of a control reset clears, and what it keeps. The catalogues and next ordinals are kept (R145), but for the
copy whose commit trailer stands, which is described before the reset (R199). -/
def Obligations.ControlResetTakesEffectInOneStep : Prop :=
  ∀ s : State, s.hw.resetInput = false → s.hw.resetPending = true → s.resetPoint = true →
    ∃ t, exec .controlResetEffect s = .next t ∧
      resetTaken s t ∧ (t.oc = .stopping → t.fw.gate = s.fw.gate) ∧
      ((t.oc = .stopping ∨ s.fr.run = none) →
        (∀ (a : Active) (x : CopyAccount), s.oc = .active a → a.phase = .trailerCheck → s.fw.account = some x →
          x.ended = .inProgress →
          t.rc = (placeForward a.cmd.unit (writtenRecord a x .none) x.passed s).rc) ∧
        ((¬∃ (a : Active) (x : CopyAccount), s.oc = .active a ∧ a.phase = .trailerCheck ∧ s.fw.account = some x ∧
            x.ended = .inProgress) → t.rc = s.rc)) ∧
      (∀ u : UnitId,
        (t.link u).lines = (s.link u).lines ∧ (t.link u).causes = (s.link u).causes ∧
          (t.link u).profile = (s.link u).profile)

/-- R185, R187: POP, on a ring with records and on an empty one, and the place of a posted record; a POP and a posting that meet on a full
ring leave the same records in either order. -/
def Obligations.PopTakesTheOldestCompletion : Prop :=
  (∀ (r : Completion) (rest : List Completion) (s : State), s.undisturbed = true → s.cmp.ring = r :: rest →
    exec .pop s = .next { s with cmp := { ring := rest ++ s.cmp.held.toList, held := none } }) ∧
  (∀ s : State, s.undisturbed = true → s.cmp.ring = [] → exec .pop s = .next s) ∧
  (∀ (c : CompletionUnit) (r : Completion),
    (c.ring.length < 8 → c.place r = { c with ring := c.ring ++ [r] }) ∧
    (8 ≤ c.ring.length → c.place r = { c with held := some r })) ∧
  (∀ (c : CompletionUnit) (r : Completion), c.ring.length = 8 → c.held = none →
    c.pop.place r = (c.place r).pop ∧ (c.pop.place r).ring = c.ring.drop 1 ++ [r] ∧ (c.pop.place r).held = none)

/-- R37, R189: CLEAR ATTENTION clears every cause of its unit and of no other. -/
def Obligations.ClearAttentionClearsOneUnit : Prop :=
  ∀ (u : UnitId) (s : State), s.undisturbed = true →
    exec (.clearAttention u) s = .next
      { s with
        tlc :=
          { s.tlc with
            units :=
              s.tlc.units.set u
                { s.link u with
                  causes :=
                    { becameReady := false, lostReady := false, rewound := false, unloaded := false,
                      permitChanged := false, stopFault := false } } } }

/-! ### The register window (Chapter 12) -/

/-- R204, R205: a staging register holds what was last written to its named fields and returns it; offset bit 0 is disregarded. -/
def Obligations.StagingRegistersHoldTheirFields : Prop :=
  ∀ (o : BitVec 6) (v : Word) (s : State), s.undisturbed = true →
    (wordOffset o = 0x04 →
      exec (.registerWrite o v) s = .next { s with hw := { s.hw with cmd := v &&& 0x007F#16 } }) ∧
    (wordOffset o = 0x06 → exec (.registerWrite o v) s = .next { s with hw := { s.hw with count := v } }) ∧
    (wordOffset o = 0x08 → exec (.registerWrite o v) s = .next { s with hw := { s.hw with arg := v } }) ∧
    (wordOffset o = 0x0A →
      exec (.registerWrite o v) s = .next { s with hw := { s.hw with mode := v &&& 0x003F#16 } }) ∧
    (readWord 0x04 s = s.hw.cmd ∧ readWord 0x06 s = s.hw.count ∧ readWord 0x08 s = s.hw.arg ∧
      readWord 0x0A s = s.hw.mode)

/-- R204, R206: a write to a read-only register, to 3Ch or 3Eh, or to ACTION with no action changes nothing and sets no flag. -/
def Obligations.DisregardedWritesChangeNothing : Prop :=
  ∀ (o : BitVec 6) (v : Word) (s : State), s.undisturbed = true →
    (wordOffset o = 0x00 ∨ (0x10 ≤ wordOffset o ∧ wordOffset o ≤ 0x1E) ∨ wordOffset o = 0x28 ∨
      0x2E ≤ wordOffset o ∨
      (wordOffset o = 0x02 ∧
        (v.extractLsb' 0 3 = 0#3 ∨ v.extractLsb' 0 3 = 6#3 ∨ v.extractLsb' 0 3 = 7#3))) →
    exec (.registerWrite o v) s = .next s

/-- R190, R191, R198, R206: a STATUS read returns the flags and the discard count as they stand and clears all but RESET PENDING. -/
def Obligations.StatusReadReturnsAndClears : Prop :=
  ∀ s : State, s.undisturbed = true → s.hw.discards ≤ 15 →
    ∃ w : Word,
      exec .statusRead s = .next
        { s with
          hw :=
            { s.hw with
              accessRefused := false, streamRefused := false, abortIgnored := false, resetDone := false,
              discards := 0, dataOut := w } } ∧
      w.getLsbD 0 = s.hw.accessRefused ∧ w.getLsbD 1 = s.hw.streamRefused ∧ w.getLsbD 2 = s.hw.abortIgnored ∧
      w.getLsbD 3 = s.hw.resetPending ∧ w.getLsbD 4 = s.hw.resetDone ∧ (w.extractLsb' 8 4).toNat = s.hw.discards

/-- R192: a write to INTEN sets the three enables, a read returns them, and INT is high exactly while an enabled condition holds. -/
def Obligations.IntenSetsTheEnablesAndIntFollows : Prop :=
  ∀ (v : Word) (s : State), s.undisturbed = true →
    ∃ t, exec (.intenWrite v) s = .next t ∧
      t = { s with
            hw :=
              { s.hw with
                completionEnable := v.getLsbD 0, attentionEnable := v.getLsbD 1, resetDoneEnable := v.getLsbD 2 } } ∧
      readWord 0x0E t = v &&& 0x0007#16 ∧
      (t.int = true ↔
        (v.getLsbD 0 = true ∧ s.cmp.ring ≠ []) ∨
        (v.getLsbD 1 = true ∧ ∃ u : UnitId, (s.link u).causes.any = true) ∨
        (v.getLsbD 2 = true ∧ s.hw.resetDone = true))

/-- R20, R142, R143, R189, R208: a CATSEL write and a CATINFO read take a snapshot of the selected unit; reading the catalogue changes
nothing in it. The catalogue and transport words, 2Ch to 3Ah, are said bit by bit; the bits with no name read 0 (R204). -/
def Obligations.CatalogueAccessesTakeASnapshot : Prop :=
  ∀ s : State, s.undisturbed = true →
    let taken (u : UnitId) (i : Fin 32) : Snapshot :=
      { state := (s.catalogue u).state, count := (s.catalogue u).entries.length, position := (s.catalogue u).position,
        nextOrdinal := s.nextOrdinal u, entry := (s.catalogue u).entries[i.val]? }
    (∀ v : Word,
      exec (.catselWrite v) s = .next
        { s with
          rc :=
            { s.rc with
              selectUnit := (v.extractLsb' 8 2).toFin, selectIndex := (v.extractLsb' 0 5).toFin,
              snapshot := taken (v.extractLsb' 8 2).toFin (v.extractLsb' 0 5).toFin } }) ∧
    exec .catinfoRead s = .next
      { s with
        rc := { s.rc with snapshot := taken s.rc.selectUnit s.rc.selectIndex }
        hw := { s.hw with dataOut := (taken s.rc.selectUnit s.rc.selectIndex).infoWord } } ∧
    readWord 0x2E s = (taken s.rc.selectUnit s.rc.selectIndex).infoWord ∧
    (∀ x : Snapshot, x.count ≤ 32 → x.position ≤ 32 →
      (x.infoWord.extractLsb' 0 2).toNat = (match x.state with | .unknown => 0 | .floating => 1 | .anchored => 2) ∧
        (x.infoWord.extractLsb' 2 6).toNat = x.count ∧ (x.infoWord.extractLsb' 8 6).toNat = x.position ∧
        x.infoWord.extractLsb' 14 2 = 0#2) ∧
    (((readWord 0x2C s).extractLsb' 0 5).toNat = s.rc.selectIndex.val ∧
      ((readWord 0x2C s).extractLsb' 8 2).toNat = s.rc.selectUnit.val ∧ readWord 0x2C s &&& 0xFCE0#16 = 0) ∧
    readWord 0x30 s = s.rc.snapshot.nextOrdinal ∧
    (s.rc.snapshot.entry = none → readWord 0x32 s = 0 ∧ readWord 0x34 s = 0 ∧ readWord 0x36 s = 0) ∧
    (∀ e, s.rc.snapshot.entry = some e →
      let w := readWord 0x34 s
      (readWord 0x32 s = match e.ident with | some i => i.ordinal | none => 0) ∧
        w.getLsbD 0 = true ∧ w.getLsbD 1 = e.ident.isSome ∧ w.getLsbD 2 = decide (e.kind = .mark) ∧
        (w.extractLsb' 3 3 = match e.ident with | some i => i.copy | none => 0) ∧
        (w.extractLsb' 6 2).toNat = (match e.trailer with | .none => 0 | .commit => 1 | .void => 2) ∧
        (w.extractLsb' 8 2).toNat =
          (match e.condition with | .clean => 0 | .corrected => 1 | .damaged => 2 | .unchecked => 3) ∧
        w.getLsbD 10 = e.long ∧ w.extractLsb' 11 5 = 0#5 ∧ (e.length ≤ 4096 → (readWord 0x36 s).toNat = e.length)) ∧
    (let w := readWord 0x38 s
     let l := (s.link s.rc.selectUnit).lines
     let c := (s.link s.rc.selectUnit).causes
     w.getLsbD 0 = l.present ∧ w.getLsbD 1 = l.ready ∧ w.getLsbD 2 = l.loadPoint ∧ w.getLsbD 3 = l.endMarker ∧
       w.getLsbD 4 = l.endLine ∧ w.getLsbD 5 = l.writePermit ∧ w.getLsbD 6 = l.rewinding ∧ w.getLsbD 7 = l.moving ∧
       w.getLsbD 8 = l.atSpeed ∧ w.getLsbD 9 = c.becameReady ∧ w.getLsbD 10 = c.lostReady ∧ w.getLsbD 11 = c.rewound ∧
       w.getLsbD 12 = c.unloaded ∧ w.getLsbD 13 = c.permitChanged ∧ w.getLsbD 14 = c.stopFault ∧
       w.getLsbD 15 = false) ∧
    (∀ u : UnitId,
      let c := (s.link u).causes
      (readWord 0x3A s).getLsbD u.val =
        (c.becameReady || c.lostReady || c.rewound || c.unloaded || c.permitChanged || c.stopFault)) ∧
    readWord 0x3A s &&& 0xFFF0#16 = 0

/-- R169, R180, R209: BUFSEL and DMASRC store their field, DRQ is high exactly while the condition of the source holds, and the words of
BUFSEL, STREAMLVL and DMASRC read as R209 lays them out. -/
def Obligations.BufferSelectAndDmaSourceSetDrq : Prop :=
  ∀ (v : Word) (s : State), s.undisturbed = true →
    exec (.bufselWrite v) s = .next { s with bu := { s.bu with select := (v.extractLsb' 0 1).toFin } } ∧
    (∃ t, exec (.dmasrcWrite v) s = .next t ∧ t = { s with bu := { s.bu with dma := t.bu.dma } } ∧
      (v.extractLsb' 0 2).toNat = (match t.bu.dma with | .off => 0 | .bufferIn => 1 | .bufferOut => 2 | .stream => 3)) ∧
    (s.drq = true ↔
      (s.bu.dma = .bufferIn ∧ s.bu.selected.committed = false ∧ s.bu.selected.pointer < 4096) ∨
      (s.bu.dma = .bufferOut ∧ s.bu.selected.committed = false ∧ s.bu.selected.pointer < s.bu.selected.fill) ∨
      (s.bu.dma = .stream ∧
        ((s.bu.stream.length + 2 ≤ 64 ∧
            ((∃ c ∈ s.cu.queue, c.code = .writeStream) ∨ (∃ a, s.oc = .active a ∧ a.cmd.code = .writeStream)) ∧
            s.bu.delivery = false) ∨
          (s.bu.delivery = true ∧ s.bu.stream ≠ [])))) ∧
    ((readWord 0x20 s).getLsbD 0 = decide (s.bu.select = 1) ∧
      (readWord 0x20 s).getLsbD 1 = s.bu.selected.committed ∧
      (s.bu.selected.fill ≤ 4096 → ((readWord 0x20 s).extractLsb' 2 14).toNat = s.bu.selected.fill)) ∧
    (s.bu.stream.length ≤ 64 → (readWord 0x28 s).toNat = s.bu.stream.length) ∧
    (readWord 0x2A s).toNat = (match s.bu.dma with | .off => 0 | .bufferIn => 1 | .bufferOut => 2 | .stream => 3)

/-- R171: BUFPTR, written and read. -/
def Obligations.BufptrTakesValuesUpTo4096 : Prop :=
  ∀ (v : Word) (s : State), s.undisturbed = true →
    (v.toNat ≤ 4096 →
      ∃ t, exec (.bufptrWrite v) s = .next t ∧
        t = { s with bu := s.bu.setBuffer s.bu.select { s.bu.selected with pointer := v.toNat } } ∧
        readWord 0x22 t = v) ∧
    (4096 < v.toNat → exec (.bufptrWrite v) s = .next { s with hw := { s.hw with accessRefused := true } })

/-- R172: a write to the buffer data port, by the host or by DACK under either buffer source. -/
def Obligations.PortWriteStoresTwoBytes : Prop :=
  ∀ (i : Instr) (v : Word) (s : State), s.undisturbed = true → s.bu.selected.contents.wf = true →
    (i = .bufdataWrite v ∨ (i = .dackAccess (.write v) ∧ (s.bu.dma = .bufferIn ∨ s.bu.dma = .bufferOut))) →
    let r := s.bu.selected
    let p := r.pointer
    (r.committed = false → p < 4096 →
      ∃ r' : RecordBuffer, exec i s = .next { s with bu := s.bu.setBuffer s.bu.select r' } ∧
        r'.pointer = min (p + 2) 4096 ∧ r'.fill = r.fill ∧ r'.committed = false ∧ r'.contents.wf = true ∧
        r'.contents.read p = v.extractLsb' 0 8 ∧ (p + 1 < 4096 → r'.contents.read (p + 1) = v.extractLsb' 8 8) ∧
        (∀ n, n ≠ p → (n ≠ p + 1 ∨ p = 4095) → r'.contents.read n = r.contents.read n)) ∧
    (r.committed = true ∨ 4096 ≤ p → exec i s = .next { s with hw := { s.hw with accessRefused := true } })

/-- R173: a read of the buffer data port, by the host or by DACK under either buffer source. -/
def Obligations.PortReadReturnsBytesBelowTheFill : Prop :=
  ∀ (i : Instr) (s : State), s.undisturbed = true →
    (i = .bufdataRead ∨ (i = .dackAccess .read ∧ (s.bu.dma = .bufferIn ∨ s.bu.dma = .bufferOut))) →
    let r := s.bu.selected
    let p := r.pointer
    (r.committed = false → p < 4096 →
      ∃ w : Word,
        exec i s = .next
          { s with
            bu := s.bu.setBuffer s.bu.select { r with pointer := min (p + 2) 4096 }
            hw := { s.hw with dataOut := w } } ∧
        w.extractLsb' 0 8 = (if p < r.fill then r.contents.read p else 0) ∧
        w.extractLsb' 8 8 = (if p + 1 < r.fill then r.contents.read (p + 1) else 0)) ∧
    (r.committed = true ∨ 4096 ≤ p →
      exec i s = .next { s with hw := { s.hw with accessRefused := true, dataOut := 0 } })

/-- R176: a push, by the host or by DACK under STREAM, is accepted with 2 bytes free, a WRITE STREAM queued or active and the
delivery mark clear, and refused otherwise. -/
def Obligations.PushIsAcceptedOrRefused : Prop :=
  ∀ (i : Instr) (v : Word) (s : State), s.undisturbed = true →
    (i = .push v ∨ (i = .dackAccess (.write v) ∧ s.bu.dma = .stream)) →
    let accepted : Prop :=
      s.bu.stream.length + 2 ≤ 64 ∧
        ((∃ c ∈ s.cu.queue, c.code = .writeStream) ∨ (∃ a, s.oc = .active a ∧ a.cmd.code = .writeStream)) ∧
        s.bu.delivery = false
    (accepted →
      exec i s = .next
        { s with bu := { s.bu with stream := s.bu.stream ++ [v.extractLsb' 0 8, v.extractLsb' 8 8] } }) ∧
    (¬accepted → exec i s = .next { s with hw := { s.hw with streamRefused := true } })

/-- R175, R177: a pull, by the host or by DACK under STREAM, takes the two oldest bytes, or the one, or is refused on an empty queue;
the delivery mark clears when it empties the queue with no READ STREAM active. -/
def Obligations.PullTakesTheOldestBytes : Prop :=
  ∀ (i : Instr) (s : State), s.undisturbed = true →
    (i = .pull ∨ (i = .dackAccess .read ∧ s.bu.dma = .stream)) →
    let markAfter (rest : List Byte) : Bool := if rest = [] ∧ s.activeIs .readStream = false then false else s.bu.delivery
    (∀ a b rest, s.bu.stream = a :: b :: rest →
      exec i s = .next
        { s with
          bu := { s.bu with stream := rest, delivery := markAfter rest }
          hw := { s.hw with dataOut := b ++ a } }) ∧
    (∀ a, s.bu.stream = [a] →
      exec i s = .next
        { s with
          bu := { s.bu with stream := [], delivery := markAfter [] }
          hw := { s.hw with dataOut := 0#8 ++ a } }) ∧
    (s.bu.stream = [] →
      exec i s = .next { s with hw := { s.hw with streamRefused := true, dataOut := 0 } })

/-- R181: an access made with DACK is an access to the port the DMA source names, and is refused under OFF. -/
def Obligations.DackReachesTheNamedPort : Prop :=
  ∀ (v : Word) (s : State), s.undisturbed = true →
    ((s.bu.dma = .bufferIn ∨ s.bu.dma = .bufferOut) →
      exec (.dackAccess .read) s = exec .bufdataRead s ∧ exec (.dackAccess (.write v)) s = exec (.bufdataWrite v) s) ∧
    (s.bu.dma = .stream →
      exec (.dackAccess .read) s = exec .pull s ∧ exec (.dackAccess (.write v)) s = exec (.push v) s) ∧
    (s.bu.dma = .off →
      exec (.dackAccess .read) s = .next { s with hw := { s.hw with accessRefused := true, dataOut := 0 } } ∧
      exec (.dackAccess (.write v)) s = .next { s with hw := { s.hw with accessRefused := true } })

/-- R182, R188, R207: the seven completion head words and RINGSTAT show the oldest record and the ring, field by field, for every
record whose fields lie in the ranges of R182; an empty ring reads 0. -/
def Obligations.HeadWordsShowTheOldestRecord : Prop :=
  ∀ s : State, s.hw.resetInput = false →
    (∀ (r : Completion) (rest : List Completion), s.cmp.ring = r :: rest →
      let w := readWord 0x10 s
      (w.extractLsb' 0 4) = r.tag ∧ (w.extractLsb' 4 2).toNat = r.unit.val ∧
        CommandCode.ofNumber (w.extractLsb' 6 4).toNat = some r.code ∧
        (w.extractLsb' 10 5).toNat =
          (match r.outcome with
           | .done => 0
           | .mark => 1
           | .loadPoint => 2
           | .endOfMedium => 3
           | .blank => 4
           | .notFound => 5
           | .dataCheck => 6
           | .lengthExcess => 7
           | .unsealed => 8
           | .voidRead => 9
           | .voidLimit => 10
           | .verifyFailed => 11
           | .trailerFailed => 12
           | .writeFault => 13
           | .underrun => 14
           | .overrun => 15
           | .transportFault => 16
           | .notReady => 17
           | .writeProtected => 18
           | .unitRewinding => 19
           | .noTransport => 20
           | .aborted => 21) ∧ w.getLsbD 15 = r.ordinal.isSome ∧
        readWord 0x12 s = r.ordinal.getD 0 ∧
        (r.byteCount ≤ 4096 → r.copies ≤ 7 → r.passed ≤ 4095 → r.corrected ≤ 255 → r.marginal ≤ 255 → r.skew ≤ 15 →
          ((readWord 0x14 s).extractLsb' 0 13).toNat = r.byteCount ∧
          ((readWord 0x14 s).extractLsb' 13 3).toNat = r.copies ∧
          ((readWord 0x16 s).extractLsb' 0 12).toNat = r.passed ∧
          ((readWord 0x16 s).extractLsb' 12 4).toNat = r.skew ∧
          ((readWord 0x18 s).extractLsb' 0 8).toNat = r.corrected ∧
          ((readWord 0x18 s).extractLsb' 8 8).toNat = r.marginal) ∧
        (let q := readWord 0x1A s;
          q.getLsbD 0 = r.qualifiers.endWarning ∧ q.getLsbD 1 = r.qualifiers.atLoadPoint ∧
          q.getLsbD 2 = r.qualifiers.corrected ∧ q.getLsbD 3 = r.qualifiers.marginal ∧
          q.getLsbD 4 = r.qualifiers.skew ∧ q.getLsbD 5 = r.qualifiers.staleDiscarded ∧
          q.getLsbD 6 = r.qualifiers.voidsSkipped ∧ q.getLsbD 7 = r.qualifiers.fragments ∧
          q.getLsbD 8 = r.qualifiers.longRecord ∧ q.getLsbD 9 = r.qualifiers.abortLate ∧
          q.getLsbD 10 = r.qualifiers.unsealed ∧ q.getLsbD 11 = r.qualifiers.dataCheck ∧
          q.getLsbD 12 = r.qualifiers.overrun ∧ q.getLsbD 13 = r.qualifiers.lengthExcess) ∧
        readWord 0x1C s =
          (match r.failure with
           | none => 0
           | some .value => 1
           | some .unreadable => 2
           | some .marginal => 3
           | some .skew => 4
           | some .extra => 5
           | some .dropped => 6
           | some .overflow => 7)) ∧
    (s.cmp.ring = [] →
      readWord 0x10 s = 0 ∧ readWord 0x12 s = 0 ∧ readWord 0x14 s = 0 ∧ readWord 0x16 s = 0 ∧ readWord 0x18 s = 0 ∧
        readWord 0x1A s = 0 ∧ readWord 0x1C s = 0) ∧
    (s.cmp.ring.length ≤ 8 →
      ((readWord 0x1E s).extractLsb' 0 4).toNat = s.cmp.ring.length ∧ (readWord 0x1E s).getLsbD 4 = s.cmp.held.isSome)

/-! ### The RESET input (R42, R201) -/

/-- R42, R201: what the assertion of RESET leaves, and what its release does. The values left in `dataOut` (log 5), in the write
lanes (log 26) and in the manner and weak start of the idle reader (log 33) are the model's choice. -/
def Obligations.ResetInputReturnsEveryBlock : Prop :=
  ∀ s : State,
    (∃ t, exec .hardwareReset s = .next t ∧
      t.hw =
        { cmd := 0, count := 0, arg := 0, mode := 0, completionEnable := false, attentionEnable := false,
          resetDoneEnable := false, accessRefused := false, streamRefused := false, abortIgnored := false,
          resetPending := false, resetDone := false, discards := 0, resetInput := true, dataOut := 0 } ∧
      t.cu = { queue := [], tagCounter := 0, lastTag := 0, result := .none } ∧ t.oc = .idle ∧
      t.timer = { phase := none, target := none, deadline := none } ∧
      t.fw = { gate := false, watch := none, acc := 0, account := none, lanes := 0, strobe := false } ∧
      t.fr =
        { mode := .idle, manner := .pass, weakStart := false, frame := none, run := none, runCount := 0, record := none,
          acc := 0, closeCount := 0, search := none,
          account :=
            { corrected := 0, marginal := 0, skew := 0, fragments := false, voids := 0, receiving := false,
              stopped := false } } ∧
      t.vu =
        { state := .idle, window := [], copyFailure := none, trailerFailure := none, soft := false, blankNotice := false,
          reported := none, corrected := 0, marginal := 0, skew := 0 } ∧
      (∀ u : UnitId,
        t.catalogue u = { state := .unknown, entries := [], position := 0 } ∧ t.nextOrdinal u = 0) ∧
      t.rc.selectUnit = 0 ∧ t.rc.selectIndex = 0 ∧
      t.rc.snapshot = { state := .unknown, count := 0, position := 0, nextOrdinal := 0, entry := none } ∧
      (∀ b : BufferId, t.bu.buffer b = { contents := [], committed := false, pointer := 0, fill := 0 }) ∧
      t.bu.select = 0 ∧ t.bu.stream = [] ∧ t.bu.delivery = false ∧ t.bu.dma = .off ∧
      t.cmp = { ring := [], held := none } ∧ t.tlc.selected = none ∧ t.tlc.atSpeedTimer = false ∧
      t.tlc.acceptanceTimer = false ∧ t.tlc.stopTimer = false ∧
      (s.tlc.selected.isSome = true → t.tlc.request = some .stop) ∧ t.int = false ∧ t.drq = false ∧
      (∀ u : UnitId,
        t.link u =
          { lines := (s.link u).lines, state := (s.link u).lines.unitState, causes := .none,
            profile := { headDistance := 32, strict := false, weakStart := false } })) ∧
    (s.hw.resetInput = true →
      ∃ t, exec .resetRelease s = .next t ∧
        t = { s with hw := { s.hw with resetInput := false }, tlc := { s.tlc with units := t.tlc.units } } ∧
        ∀ u : UnitId, t.link u = { s.link u with state := (s.link u).lines.unitState }) ∧
    (∀ l : Lines,
      (l.present = false → l.unitState = .absent) ∧
      (l.present = true → l.ready = false → l.unitState = .notReady) ∧
      (l.present = true → l.ready = true → l.rewinding = true → l.unitState = .rewinding) ∧
      (l.present = true → l.ready = true → l.rewinding = false → l.unitState = .idle))

/-! ### The status lines (Chapter 2) -/

/-- R24, R38: PRESENT and READY move a unit that is not selected among ABSENT, NOT READY and IDLE, with their causes and the
catalogue's anchoring or invalidation. -/
def Obligations.PresentAndReadyMoveAUnit : Prop :=
  ∀ (u : UnitId) (s : State), s.undisturbed = true →
    let l := (s.link u).lines
    let c := (s.link u).causes
    let moved (l' : Lines) (st : UnitState) (c' : Causes) : TransportLink :=
      { s.tlc with units := s.tlc.units.set u { s.link u with lines := l', state := st, causes := c' } }
    let anchored : RecordCatalogue :=
      { s.rc with catalogues := s.rc.catalogues.set u { state := .anchored, entries := [], position := 0 } }
    let unknown : RecordCatalogue :=
      { s.rc with catalogues := s.rc.catalogues.set u { state := .unknown, entries := [], position := 0 } }
    (l.ready = false → l.present = true → (s.link u).state = .notReady → l.rewinding = false →
      exec (.readyRise u) s = .next
        { s with tlc := moved { l with ready := true } .idle { c with becameReady := true }, rc := anchored }) ∧
    (l.ready = false → l.present = true → (s.link u).state = .notReady → l.rewinding = true →
      exec (.readyRise u) s = .next { s with tlc := moved { l with ready := true } .rewinding c }) ∧
    (l.present = false → l.ready = true → l.rewinding = false →
      exec (.presentRise u) s = .next
        { s with tlc := moved { l with present := true } .idle { c with becameReady := true }, rc := anchored }) ∧
    (l.present = false → l.ready = true → l.rewinding = true →
      exec (.presentRise u) s = .next { s with tlc := moved { l with present := true } .rewinding c }) ∧
    (l.present = false → l.ready = false →
      exec (.presentRise u) s = .next { s with tlc := moved { l with present := true } .notReady c }) ∧
    (l.ready = true → l.present = true → s.tlc.selected ≠ some u →
      ((s.link u).state = .idle ∨ (s.link u).state = .rewinding →
        exec (.readyFall u) s = .next
          { s with tlc := moved { l with ready := false } .notReady { c with lostReady := true }, rc := unknown }) ∧
      ((s.link u).state = .unloading →
        exec (.readyFall u) s = .next
          { s with tlc := moved { l with ready := false } .notReady { c with unloaded := true }, rc := unknown })) ∧
    (l.present = true → s.tlc.selected ≠ some u →
      ((s.link u).state = .idle ∨ (s.link u).state = .rewinding →
        exec (.presentFall u) s = .next
          { s with tlc := moved { l with present := false } .absent { c with lostReady := true }, rc := unknown }) ∧
      ((s.link u).state = .unloading →
        exec (.presentFall u) s = .next
          { s with tlc := moved { l with present := false } .absent { c with unloaded := true }, rc := unknown }) ∧
      ((s.link u).state = .notReady →
        exec (.presentFall u) s = .next { s with tlc := moved { l with present := false } .absent c }))

/-- R24, R34, R58 to R60: the loss of the selected unit in any state, RAMPING included, releases it at once, drops the gate and
abandons the parse, with the catalogue UNKNOWN and the next ordinal kept; a fall raises LOST READY, a rewind of the transport's own no
cause. It ends an active operation TRANSPORT FAULT, with the conditions its open record has (R159, log 39), or, with a CONTROL RESET
pending, in the effect of the reset with no posting (R200); in FINISH and STOPPING it adds nothing to what was posted. -/
def Obligations.LossOfTheSelectedUnitEndsTheOperation : Prop :=
  ∀ (u : UnitId) (s : State), s.undisturbed = true → s.tlc.selected = some u → (s.link u).lines.present = true →
    let st := (s.link u).state
    let raised : Causes := { (s.link u).causes with lostReady := true }
    let lost (i : Instr) (next : UnitState) (causes : Causes) : Prop :=
      let released (t : State) : Prop :=
        t.oc = .idle ∧ t.timer = .stopped ∧ t.tlc.selected = none ∧ t.fw.gate = false ∧ t.fr.mode = .idle ∧
          t.fr.record = none ∧ t.fr.run = none ∧ (t.link u).state = next ∧ (t.link u).causes = causes ∧
          t.catalogue u = { state := .unknown, entries := [], position := 0 } ∧ t.rc.nextOrdinals = s.rc.nextOrdinals
      (∀ a, s.oc = .active a → s.hw.resetPending = false →
        ∃ t, exec i s = .next t ∧ posted a .transportFault s t ∧ carriesOpenRecord a s t ∧ released t) ∧
      (∀ a, s.oc = .active a → s.hw.resetPending = true → ∃ t, exec i s = .next t ∧ resetClears s t ∧ released t) ∧
      (((∃ f, s.oc = .finishing f) ∨ s.oc = .stopping) →
        ∃ t, exec i s = .next t ∧ t.cmp = s.cmp ∧ t.cu = s.cu ∧ t.bu = s.bu ∧ released t)
    ((st = .idle ∨ st = .ramping ∨ st = .runningForward ∨ st = .runningReverse ∨ st = .stopping) →
      lost (.presentFall u) .absent raised ∧
      ((s.link u).lines.ready = true → lost (.readyFall u) .notReady raised)) ∧
    ((st = .idle ∨ st = .runningForward ∨ st = .runningReverse ∨ st = .stopping ∨
        (st = .ramping ∧
          (s.tlc.request = some .forward ∨ s.tlc.request = some .forwardWrite ∨ s.tlc.request = some .reverse))) →
      (s.link u).lines.rewinding = false → lost (.rewindingRise u) .rewinding (s.link u).causes)

/-- R14, R27, R28 to R30, R39, R58 to R60: each terminating report ends an active operation with its outcome and the medium is stopped; in
FINISH it ends FINISH in the stop and adds nothing to what was posted; in STOPPING it leaves the stop and the posted outcome as they are
(R40). MOVING low meets the STOP at rest: the stop is complete at once. A copy in progress under the gate is passed unsealed and the Verify
Unit told (R65, R78, R118; log 45), a record open at END or at loss of speed is closed unsealed and gives its conditions, and one at LOAD
POINT in reverse becomes fragments (R95). With a CONTROL RESET pending the catalogue reports are made and the reset takes effect in place of
the posting (R200). A frame still being assembled belongs to the run that the report ends (R14, R95), with the value it has so far and no
byte handed on (log 21: the model's choice). That the row ECHO_DEADLINE acts with no tick asked for is the model's choice (log 42). -/
def Obligations.TerminatingReportsEndInAStop : Prop :=
  ∀ (u : UnitId) (s : State), s.undisturbed = true → s.tlc.selected = some u → (s.link u).lines.present = true →
    let l := s.link u
    let atSpeed : Prop := l.state = .runningForward ∨ l.state = .runningReverse
    let under (st : UnitState) (q : List MotionRequest) : Prop :=
      l.state = st ∨ (l.state = .ramping ∧ ∃ r ∈ q, s.tlc.request = some r)
    let ends (i : Instr) (o : CmdOutcome) (always : State → Prop) (placed cut : Active → State → Prop) : Prop :=
      (∀ a, s.oc = .active a → s.hw.resetPending = false →
        ∃ t, exec i s = .next t ∧ endsInStop a o s t ∧ always t ∧ cut a t) ∧
      (∀ a, s.oc = .active a → s.hw.resetPending = true →
        ∃ t, exec i s = .next t ∧ resetTaken s t ∧ always t ∧ placed a t) ∧
      (∀ f, s.oc = .finishing f →
        ∃ t, exec i s = .next t ∧ stops s t ∧ t.cmp = s.cmp ∧ t.cu = s.cu ∧ t.bu = s.bu ∧ always t)
    let gateOff (t : State) : Prop := t.fw.gate = false
    let gateOffAndPlaced (t : State) : Prop := t.fw.gate = false ∧ recordPlaced s t
    let bothCut (o : CmdOutcome) (a : Active) (t : State) : Prop := copyCut a s t ∧ recordCut a o s t
    let atRest (t : State) : Prop :=
      t.oc = .idle ∧ t.tlc.selected = none ∧ (t.link u).state = .idle ∧ t.tlc.stopTimer = false ∧ t.fw.gate = false ∧
        recordPlaced s t
    (l.lines.loadPoint = false → under .runningReverse [.reverse] → endsRunWithOpenFrame (.loadPointRise u) s) ∧
    (l.lines.endLine = false → under .runningForward [.forward, .forwardWrite] → endsRunWithOpenFrame (.endRise u) s) ∧
    (l.lines.atSpeed = true → atSpeed → endsRunWithOpenFrame (.atSpeedFall u) s) ∧
    (l.lines.moving = true → atSpeed → endsRunWithOpenFrame (.movingFall u) s) ∧
    (l.lines.loadPoint = false → under .runningReverse [.reverse] →
      ends (.loadPointRise u) .loadPoint
        (fun t =>
          (t.catalogue u).state = .anchored ∧ (t.catalogue u).position = 0 ∧
            (s.fr.mode = .parse true → s.fr.run = none →
              t.fr.record = none ∧ t.rc.nextOrdinals = s.rc.nextOrdinals ∧
                (t.catalogue u).entries = (s.catalogue u).entries.drop (s.catalogue u).position))
        (fun _ _ => True)
        (fun a t =>
          s.fr.mode = .parse true → s.fr.run = none → s.fr.record.isSome = true → a.cmd.code.readClass = true →
            ∀ r, t.cmp = s.cmp.place r → r.qualifiers.fragments = true)) ∧
    (l.lines.endLine = false → under .runningForward [.forward, .forwardWrite] →
      ends (.endRise u) .endOfMedium gateOffAndPlaced (copyPlaced · s ·) (bothCut .endOfMedium)) ∧
    (l.lines.atSpeed = true → atSpeed →
      ends (.atSpeedFall u) .transportFault gateOffAndPlaced (copyPlaced · s ·) (bothCut .transportFault)) ∧
    (l.lines.moving = true → atSpeed →
      (∀ a, s.oc = .active a → s.hw.resetPending = false →
        ∃ t, exec (.movingFall u) s = .next t ∧ posted a .transportFault s t ∧ atRest t ∧
          bothCut .transportFault a t) ∧
      (∀ a, s.oc = .active a → s.hw.resetPending = true →
        ∃ t, exec (.movingFall u) s = .next t ∧ resetClears s t ∧ t.timer = .stopped ∧ atRest t ∧ copyPlaced a s t) ∧
      (∀ f, s.oc = .finishing f →
        ∃ t, exec (.movingFall u) s = .next t ∧ t.cmp = s.cmp ∧ t.cu = s.cu ∧ t.bu = s.bu ∧ atRest t)) ∧
    (s.fw.watch.isSome = true → ends .echoDeadline .writeFault gateOff (copyPlaced · s ·) (copyCut · s ·)) ∧
    (l.lines.writePermit = true → s.fw.gate = true →
      ends (.writePermitChange u false) .writeFault gateOff (copyPlaced · s ·) (copyCut · s ·)) ∧
    (∀ a, s.oc = .active a →
      (s.tlc.atSpeedTimer = true →
        (s.hw.resetPending = false →
          ∃ t, exec .atSpeedTimeout s = .next t ∧ endsInStop a .transportFault s t ∧ t.tlc.atSpeedTimer = false ∧
            carriesOpenRecord a s t) ∧
        (s.hw.resetPending = true →
          ∃ t, exec .atSpeedTimeout s = .next t ∧ resetTaken s t ∧ t.tlc.atSpeedTimer = false)) ∧
      (s.tlc.acceptanceTimer = true →
        (s.hw.resetPending = false →
          ∃ t, exec .acceptanceTimeout s = .next t ∧ endsInStop a .transportFault s t ∧
            t.tlc.acceptanceTimer = false) ∧
        (s.hw.resetPending = true →
          ∃ t, exec .acceptanceTimeout s = .next t ∧ resetTaken s t ∧ t.tlc.acceptanceTimer = false))) ∧
    (s.oc = .stopping → (s.link u).state = .stopping →
      let follows (x : Lines) : State := { s with tlc := { s.tlc with units := s.tlc.units.set u { s.link u with lines := x } } }
      let stopGoesOn (t : State) : Prop := stops s t ∧ t.cmp = s.cmp ∧ t.cu = s.cu ∧ t.bu = s.bu ∧ t.fw.gate = false
      (l.lines.loadPoint = false → exec (.loadPointRise u) s = .next (follows { l.lines with loadPoint := true })) ∧
      (l.lines.endLine = false → exec (.endRise u) s = .next (follows { l.lines with endLine := true })) ∧
      (l.lines.atSpeed = true → exec (.atSpeedFall u) s = .next (follows { l.lines with atSpeed := false })) ∧
      (l.lines.writePermit = true → s.fw.gate = true →
        ∃ t, exec (.writePermitChange u false) s = .next t ∧ stopGoesOn t) ∧
      (s.fw.watch.isSome = true → s.fw.gate = true → ∃ t, exec .echoDeadline s = .next t ∧ stopGoesOn t))

/-- R29, R165: END MARKER gives the command in force END WARNING; a LOCATE search with no record open ends at it NOT FOUND, and with
one open is marked for its next close. That the stop of TURN counts as moving forward is the model's reading (log 25). -/
def Obligations.EndMarkerWarnsAndEndsASearch : Prop :=
  ∀ (u : UnitId) (a : Active) (s : State), s.undisturbed = true → s.hw.resetPending = false → s.oc = .active a →
    s.tlc.selected = some u → (s.link u).lines.present = true → (s.link u).lines.endMarker = false →
    s.movesForward u = true →
    let tlc' : TransportLink :=
      { s.tlc with
        units := s.tlc.units.set u { s.link u with lines := { (s.link u).lines with endMarker := true } } }
    let warned := { a with qualifiers := { a.qualifiers with endWarning := true } }
    (a.plan ≠ some .search → exec (.endMarkerRise u) s = .next { s with tlc := tlc', oc := .active warned }) ∧
    (a.plan = some .search → (a.phase = .search ∨ a.phase = .record) → s.fr.record.isSome = true →
      exec (.endMarkerRise u) s = .next { s with tlc := tlc', oc := .active { warned with endRisen := true } }) ∧
    (a.plan = some .search → (a.phase = .search ∨ a.phase = .record) → s.fr.record = none →
      ∃ t, exec (.endMarkerRise u) s = .next t ∧ endsInFinish a .notFound 16 s t ∧ t.tlc = tlc' ∧
        ∀ r, t.cmp = s.cmp.place r → r.qualifiers.endWarning = true)

/-- R39: a change of WRITE PERMIT on a ready unit raises PERMIT CHANGED, on one not ready nothing; neither touches an operation when
the permit rises or the gate is OFF. -/
def Obligations.PermitChangeRaisesItsCause : Prop :=
  ∀ (u : UnitId) (level : Bool) (s : State), s.undisturbed = true → (s.link u).lines.present = true →
    (s.link u).lines.writePermit = !level → (level = true ∨ s.tlc.selected ≠ some u ∨ s.fw.gate = false) →
    exec (.writePermitChange u level) s = .next
      { s with
        tlc :=
          { s.tlc with
            units :=
              s.tlc.units.set u
                { s.link u with
                  lines := { (s.link u).lines with writePermit := level }
                  causes :=
                    { (s.link u).causes with
                      permitChanged := (s.link u).causes.permitChanged || (s.link u).lines.ready } } } }

/-- R31, R55: a REWIND or UNLOAD that awaits acceptance is accepted by the rise of REWINDING: DONE, the selection released, the
catalogue UNKNOWN, the next ordinal kept. -/
def Obligations.RewindingRiseAcceptsTheRequest : Prop :=
  ∀ (u : UnitId) (a : Active) (s : State), s.undisturbed = true → s.hw.resetPending = false → s.oc = .active a →
    (s.link u).lines.present = true → (s.link u).lines.rewinding = false → (s.link u).state = .ramping →
    (s.tlc.request = some .rewind ∨ s.tlc.request = some .unload) →
    ∃ t, exec (.rewindingRise u) s = .next t ∧ posted a .done s t ∧ t.oc = .idle ∧ t.tlc.selected = none ∧
      t.tlc.acceptanceTimer = false ∧
      (t.link u).state = (if s.tlc.request = some .rewind then .rewinding else .unloading) ∧
      t.catalogue u = { state := .unknown, entries := [], position := 0 } ∧ t.rc.nextOrdinals = s.rc.nextOrdinals

/-- R32, R33: REWINDING falls with READY high: IDLE, and with LOAD POINT high REWOUND, the catalogue anchored empty and the next
ordinal 0. -/
def Obligations.RewindingFallEndsTheRewind : Prop :=
  ∀ (u : UnitId) (s : State), s.undisturbed = true → (s.link u).lines.present = true →
    (s.link u).lines.rewinding = true → (s.link u).lines.ready = true →
    ((s.link u).state = .rewinding ∨ (s.link u).state = .unloading) →
    let ended (c : Causes) : TransportLink :=
      { s.tlc with
        units :=
          s.tlc.units.set u
            { s.link u with lines := { (s.link u).lines with rewinding := false }, state := .idle, causes := c } }
    ((s.link u).lines.loadPoint = true →
      exec (.rewindingFall u) s = .next
        { s with
          tlc := ended { (s.link u).causes with rewound := true }
          rc :=
            { s.rc with
              catalogues := s.rc.catalogues.set u { state := .anchored, entries := [], position := 0 }
              nextOrdinals := s.rc.nextOrdinals.set u 0 } }) ∧
    ((s.link u).lines.loadPoint = false →
      exec (.rewindingFall u) s = .next { s with tlc := ended (s.link u).causes })

/-- R25, R48, R54: AT SPEED ends RAMP, and the phase that follows is the class's; in TURN it ends the reverse ramp, and the phase count
goes on (R45). -/
def Obligations.AtSpeedEndsTheRamp : Prop :=
  ∀ (u : UnitId) (a : Active) (s : State), s.undisturbed = true → s.oc = .active a → s.tlc.selected = some u →
    (s.link u).lines.present = true → (s.link u).lines.atSpeed = false → (s.link u).state = .ramping →
    let running (st : UnitState) : TransportLink :=
      { s.tlc with
        units :=
          s.tlc.units.set u { s.link u with lines := { (s.link u).lines with atSpeed := true }, state := st }
        atSpeedTimer := false }
    let enters (st : UnitState) (p : Phase) (target : Option Nat) (fr : FrameReader) : Prop :=
      exec (.atSpeedRise u) s = .next
        { s with
          tlc := running st, oc := .active { a with phase := p }
          timer := { s.timer with phase := some 0, target := target }, fr := fr }
    (a.phase = .ramp → s.tlc.request = some .forwardWrite →
      (a.cmd.code.writesCopies = true → a.loadPointAtStart = true → enters .runningForward .leader (some 600) s.fr) ∧
      (a.cmd.code.writesCopies = true → a.loadPointAtStart = false → enters .runningForward .guard (some 60) s.fr) ∧
      (a.cmd.code = .eraseGap → a.loadPointAtStart = true → enters .runningForward .leader (some 600) s.fr) ∧
      (a.cmd.code = .eraseGap → a.loadPointAtStart = false →
        enters .runningForward .erase (some (a.cmd.count * 100)) s.fr)) ∧
    (a.phase = .ramp → a.cmd.code.readClass = true → s.fr.record = none →
      (s.tlc.request = some .forward → enters .runningForward .search none { s.fr with search := some 0 }) ∧
      (s.tlc.request = some .reverse → enters .runningReverse .search none { s.fr with search := some 0 })) ∧
    (a.phase = .turnRamp → s.fr.record = none → s.tlc.request = some .reverse →
      exec (.atSpeedRise u) s = .next
        { s with
          tlc := running .runningReverse, oc := .active { a with phase := .turnPass }
          fr := { s.fr with search := some 0 } })

/-- R14, R27, R54, R95: the fall of MOVING completes the stop, and STOP FAULT ends it with the cause and the catalogue UNKNOWN; within TURN
the stop is followed by REVERSE, or the LOCATE ends TRANSPORT FAULT. The model's readings: at the stop limit a record that the end of the
run closes enters no catalogue and moves no ordinal (log 27); in TURN such a close gives the LOCATE its ordinal and LONG RECORD (log 20) and
is not counted in its records passed (log 19); reverse PARSE begins at the stop complete (log 43). The phase count goes on through TURN, one
phase (R45). A frame still being assembled belongs to the run that the stop ends, with the value it has so far (log 21). A CONTROL RESET
pending in the stop of TURN or in STOPPING is due there, and is taken first (R199). -/
def Obligations.StopsAreCompletedOrFault : Prop :=
  ∀ (u : UnitId) (s : State), s.undisturbed = true → s.tlc.selected = some u → (s.link u).lines.present = true →
    (s.link u).lines.moving = true → (s.link u).state = .stopping →
    ((s.oc = .stopping ∨ ∃ a, s.oc = .active a ∧ a.phase = .turnStop) →
      endsRunWithOpenFrame (.movingFall u) s ∧ (s.tlc.stopTimer = true → endsRunWithOpenFrame .stopTimeout s)) ∧
    (s.oc = .stopping →
      ∃ t, exec (.movingFall u) s = .next t ∧ t.oc = .idle ∧ t.timer = .stopped ∧ t.tlc.selected = none ∧
        t.tlc.stopTimer = false ∧ t.fw.gate = false ∧ (t.link u).state = .idle ∧ (t.link u).causes = (s.link u).causes ∧
        t.fr.mode = .idle ∧ t.fr.record = none ∧ t.cmp = s.cmp ∧ t.cu = s.cu ∧ t.bu = s.bu) ∧
    (s.oc = .stopping → s.tlc.stopTimer = true →
      ∃ t, exec .stopTimeout s = .next t ∧ t.oc = .idle ∧ t.timer = .stopped ∧ t.tlc.selected = none ∧
        t.tlc.stopTimer = false ∧ t.fw.gate = false ∧ (t.link u).state = .idle ∧
        (t.link u).causes = { (s.link u).causes with stopFault := true } ∧ t.fr.mode = .idle ∧ t.fr.record = none ∧
        t.catalogue u = { state := .unknown, entries := [], position := 0 } ∧
        t.rc.nextOrdinals = s.rc.nextOrdinals ∧ t.cmp = s.cmp) ∧
    (∀ a : Active, s.oc = .active a → a.phase = .turnStop →
      (∃ t b, exec (.movingFall u) s = .next t ∧ t.oc = .active b ∧ b.cmd = a.cmd ∧ b.reverse = true ∧
        b.phase = .turnRamp ∧ (a.cmd.code = .locate → b.passed = a.passed) ∧
        (s.fr.run = none → b = { a with reverse := true, phase := .turnRamp }) ∧
        t.timer = s.timer ∧ t.tlc.selected = some u ∧ (t.link u).state = .ramping ∧ t.tlc.request = some .reverse ∧
        t.tlc.atSpeedTimer = true ∧ t.fr.mode = .parse true ∧ t.fr.record = none ∧ t.cmp = s.cmp) ∧
      (s.tlc.stopTimer = true →
        ∃ t, exec .stopTimeout s = .next t ∧ posted a .transportFault s t ∧ t.oc = .idle ∧ t.timer = .stopped ∧
          t.tlc.selected = none ∧ (t.link u).causes = { (s.link u).causes with stopFault := true } ∧
          t.catalogue u = { state := .unknown, entries := [], position := 0 }))

/-- R20: a fall of LOAD POINT, END MARKER or END and a rise of MOVING change the live copy and nothing else; that the copy of an
absent unit follows too is the model's reading (log 15). -/
def Obligations.LiveLinesFollowWithNoOtherEffect : Prop :=
  ∀ (u : UnitId) (s : State), s.undisturbed = true →
    let followed (l : Lines) : State := { s with tlc := { s.tlc with units := s.tlc.units.set u { s.link u with lines := l } } }
    exec (.liveLineChange u .loadPointFall) s = .next (followed { (s.link u).lines with loadPoint := false }) ∧
    exec (.liveLineChange u .endMarkerFall) s = .next (followed { (s.link u).lines with endMarker := false }) ∧
    exec (.liveLineChange u .endFall) s = .next (followed { (s.link u).lines with endLine := false }) ∧
    exec (.liveLineChange u .movingRise) s = .next (followed { (s.link u).lines with moving := true })

/-! ### Pulses, frames and ticks -/

/-- R21, R49, R50, R72, R73: the echo answers the awaited frame, the LCF's ends LCF, an echo with none awaited is disregarded, and the
pulses of a unit not selected are discarded. A copy whose verify pass was skipped goes from LCF to a void trailer, whose placement
counts from the LCF place: ABORTED for a run that ABORT cut, UNDERRUN for one the empty stream queue cut, and ABORTED when an ABORT has
been taken since (the last the model's reading, log 23). -/
def Obligations.EchoAnswersTheAwaitedFrame : Prop :=
  ∀ (u : UnitId) (s : State), s.undisturbed = true →
    (s.tlc.selected ≠ some u →
      exec (.echo u) s = .next s ∧ exec (.distanceTick u) s = .next s ∧
        ∀ l strong, exec (.readLanePulse u l strong) s = .next s) ∧
    (s.tlc.selected = some u →
      (s.fw.watch = none → exec (.echo u) s = .next s) ∧
      (∀ role, s.fw.watch = some role → role ≠ .lcf →
        exec (.echo u) s = .next { s with fw := { s.fw with watch := none } }) ∧
      (∀ a, s.fw.watch = some .lcf → s.oc = .active a → a.phase = .lcf → a.skipped = false →
        exec (.echo u) s = .next
          { s with
            fw :=
              { s.fw with watch := none, account := s.fw.account.map fun x => { x with lcf := .echoed } }
            oc := .active { a with phase := .drain }
            timer := { s.timer with phase := some 0, target := none } }) ∧
      (∀ a x, s.fw.watch = some .lcf → s.oc = .active a → a.phase = .lcf → a.skipped = true → s.fw.account = some x →
        exec (.echo u) s = .next
          { s with
            fw := { s.fw with watch := none, account := some { x with lcf := .echoed } }
            oc :=
              .active
                { a with
                  phase := .trailer .void
                  voidOutcome := if a.abortMark = true ∨ x.cut ≠ some .underrun then .aborted else .underrun }
            timer := { s.timer with target := some 4 } }))

/-- R14, R16, R17, R45, R50, R66 to R70, R75, R78, R81: a tick raises every count that runs: the Phase Timer's, in STOPPING as in FINISH
and in an operation, and the run, close and search counts; the deadline count in DRAIN and in TRAILER CHECK. At the first tick of RAMP
a read-class operation enters PARSE; at the first tick after FINISH a chained command writes its H0 or begins its erase count (R9, R52,
R57). A tick in HEADER/DATA also writes the frame that is due, adds it to the accumulator, counts it, hands it to the Verify Unit and
awaits its echo, the last frame of the run entering CHECK SPACE; a WRITE STREAM takes its byte from the stream queue, and an empty
queue cuts the run; the tick of the second trailer frame enters TRAILER CHECK after a commit, and after a void reports the copy and
enters REWRITE GAP or posts with head distance + 16. With a CONTROL RESET pending the tick of the second trailer frame is its point: the
copy is reported, after a commit trailer with trailer none and the passed mark set, and the reset takes effect in place of the posting
(R80, R199). The age of an open frame (log 9), the phase count going on into STOPPING (log 34)
and the strobe shown for the ticks (log 26) are the model's. -/
def Obligations.TicksCountAndWriteTheHeaderRun : Prop :=
  ∀ (u : UnitId) (s : State), s.undisturbed = true → s.tlc.selected = some u →
    let counted : PhaseTimer := { s.timer with phase := s.timer.phase.map (· + 1) }
    let still : FrameWriter := { s.fw with strobe := false }
    (s.fw.watch = none → s.timer.deadline = none → (∀ x, s.fr.frame = some x → x.age = 0) →
      (s.fr.run.isSome = true → s.fr.runCount < 2) → (s.fr.record.isSome = true → s.fr.closeCount < 96) →
      (∀ n, s.fr.search = some n → n < 4000) →
      (s.oc = .stopping ∨
        (∃ a, s.oc = .active a ∧
          (a.phase = .search ∨ a.phase = .record ∨ a.phase = .turnStop ∨ a.phase = .turnRamp ∨ a.phase = .turnPass)) ∨
        (((∃ f, s.oc = .finishing f) ∨
            ∃ a, s.oc = .active a ∧
              (a.phase = .guard ∨ a.phase = .leader ∨ a.phase = .checkSpace ∨ a.phase = .rewriteGap ∨
                a.phase = .erase)) ∧
          ∃ n k, s.timer.target = some n ∧ s.timer.phase = some k ∧ k < n)) →
      exec (.distanceTick u) s = .next
        { s with
          timer := counted
          fw := still
          fr :=
            { s.fr with
              frame := s.fr.frame.map fun x => { x with age := x.age + 1 }
              runCount := if s.fr.run.isSome then s.fr.runCount + 1 else s.fr.runCount
              closeCount := if s.fr.record.isSome then s.fr.closeCount + 1 else s.fr.closeCount
              search := s.fr.search.map (· + 1) } }) ∧
    (∀ (a : Active) (d : Deadline), s.oc = .active a → (a.phase = .drain ∨ a.phase = .trailerCheck) → s.quietReader →
      s.fw.watch = none → s.timer.deadline = some d → d.count < d.target →
      exec (.distanceTick u) s = .next
        { s with timer := { counted with deadline := some { d with count := d.count + 1 } }, fw := still }) ∧
    (∀ a : Active, s.oc = .active a → a.phase = .ramp → s.quietMedium →
      (a.cmd.code.readClass = true → s.fr.mode = .idle →
        exec (.distanceTick u) s = .next
          { s with timer := counted, fw := still, fr := { s.fr with mode := .parse a.reverse } }) ∧
      ((a.cmd.code.readClass = false ∨ s.fr.mode ≠ .idle) →
        exec (.distanceTick u) s = .next { s with timer := counted, fw := still })) ∧
    (∀ a : Active, s.oc = .active a → a.phase = .chained → s.quietMedium →
      (a.cmd.code = .eraseGap →
        exec (.distanceTick u) s = .next
          { s with
            oc := .active { a with phase := .erase }
            timer := { s.timer with phase := some 0, target := some (a.cmd.count * 100) }, fw := still }) ∧
      (a.cmd.code ≠ .eraseGap →
        let ordinal := a.ordinal.getD (s.nextOrdinal a.cmd.unit)
        let kind : Kind := if a.cmd.code = .writeMark then .mark else .data
        let h0 := frameOf (headerZero kind a.copyCounter)
        exec (.distanceTick u) s = .next
          { s with
            oc := .active { a with phase := .headerData, ordinal := some ordinal, verdict := none, skipped := false }
            timer := { s.timer with phase := some 0, target := none }
            fw :=
              { s.fw with
                acc := h0, watch := some .header, lanes := h0, strobe := true
                account :=
                  some
                    { kind := kind, ordinal := ordinal, copy := a.copyCounter, source := sourceOf a.cmd,
                      planned := a.cmd.count, headerRun := 1, dataFrames := 0, cut := none, lcf := .pending,
                      trailer := .none, passed := false, ended := .inProgress } }
            vu := s.vu.push { value := h0, role := .header, index := 0 } })) ∧
    (∀ (a : Active) (x : CopyAccount), s.oc = .active a → a.phase = .headerData → s.fw.account = some x → s.quietMedium →
      let n := x.headerRun
      let writes (byte : Byte) (bu : BufferUnit) : Prop :=
        let role : FrameRole := if n < 3 then .header else .data
        exec (.distanceTick u) s = .next
          { s with
            bu := bu
            fw :=
              { s.fw with
                acc := s.fw.acc ^^^ frameOf byte, watch := some role, lanes := frameOf byte, strobe := true
                account :=
                  some { x with headerRun := n + 1, dataFrames := x.dataFrames + (if n < 3 then 0 else 1) } }
            vu := s.vu.push { value := frameOf byte, role := role, index := n }
            oc := if n + 1 = 3 + x.planned then .active { a with phase := .checkSpace } else s.oc
            timer :=
              if n + 1 = 3 + x.planned then { s.timer with phase := some 0, target := some 4 }
              else { s.timer with phase := s.timer.phase.map (· + 1) } }
      (n < 3 → writes (headerByte x.kind x.copy x.ordinal n) s.bu) ∧
      (∀ b, 3 ≤ n → x.source = .buffer b → writes ((s.bu.buffer b).contents.read (n - 3)) s.bu) ∧
      (∀ v rest, 3 ≤ n → x.source = .stream → s.bu.stream = v :: rest → writes v { s.bu with stream := rest }) ∧
      (3 ≤ n → x.source = .stream → s.bu.stream = [] →
        exec (.distanceTick u) s = .next
          { s with
            fw := { s.fw with strobe := false, account := some { x with cut := some .underrun } }
            vu := s.vu.skipNotice
            oc := .active { a with phase := .checkSpace, skipped := true }
            timer := { s.timer with phase := some 1, target := some 4 } })) ∧
    (∀ (a : Active) (x : CopyAccount), s.oc = .active a → s.fw.account = some x → s.quietMedium →
      s.hw.resetPending = true → x.ended = .inProgress →
      let takes (second : Byte) (k : Trailer) (passed : Bool) : Prop :=
        ∃ t, exec (.distanceTick u) s = .next t ∧ resetTaken s t ∧ t.fw.lanes = frameOf second ∧ t.fw.strobe = true ∧
          (t.oc = .stopping → t.fw.gate = s.fw.gate) ∧
          t.rc = (placeForward a.cmd.unit (writtenRecord a x k) passed s).rc
      (a.phase = .trailer .commit → x.trailer = .first .commit → takes 0xC3 .none true) ∧
      (a.phase = .trailer .void → x.trailer = .first .void → takes 0x99 .void x.passed)) ∧
    (∀ (a : Active) (x : CopyAccount), s.oc = .active a → s.fw.account = some x → s.quietMedium →
      s.hw.resetPending = false →
      (a.phase = .trailer .commit → x.trailer = .first .commit →
        exec (.distanceTick u) s = .next
          { s with
            fw :=
              { s.fw with
                watch := some .trailer, lanes := frameOf 0xC3, strobe := true
                account := some { x with trailer := .complete .commit, passed := true } }
            vu := s.vu.push { value := frameOf 0xC3, role := .trailer, index := 1 }
            oc := .active { a with phase := .trailerCheck }
            timer :=
              { phase := some 0, target := none, deadline := some { count := 0, target := a.profile.headDistance + 4 } } }) ∧
      (a.phase = .trailer .void → x.trailer = .first .void →
        let gap := a.profile.headDistance + 16
        let rewrites : Prop :=
          (a.cmd.code = .write ∨ a.cmd.code = .writeMark) ∧ a.copyCounter < a.cmd.retry ∧ a.skipped = false ∧
            a.voidOutcome = .verifyFailed
        ∃ t, exec (.distanceTick u) s = .next t ∧ t.rc = (placeForward a.cmd.unit (writtenRecord a x .void) x.passed s).rc ∧
          t.fw =
            { s.fw with
              watch := some .trailer, lanes := frameOf 0x99, strobe := true
              account := some { x with trailer := .complete .void, ended := .void } } ∧
          (rewrites → a.abortMark = false →
            t.oc = .active { a with phase := .rewriteGap } ∧
              t.timer = { phase := some 0, target := some gap, deadline := none } ∧ t.cmp = s.cmp ∧ t.bu = s.bu) ∧
          (rewrites → a.abortMark = true → endsInFinish a .aborted gap s t) ∧
          (¬rewrites → endsInFinish a a.voidOutcome gap s t)))

/-- R84: the selection of a closed frame, for every S and W; a written frame that has lost one lane from S alone is corrected to its
value, and one that has lost it from both is unreadable. R1: the vertical checks ask for an odd number of ones in each group, and the
frame that carries a byte has that byte in its data lanes and passes them. That lanes E and O are bits 8 and 9 of the frame's word is
the model's choice (log 1). -/
def Obligations.FrameSelectionFollowsTheVerticalChecks : Prop :=
  (∀ v : Lanes,
    let lane (n : Nat) : Nat := if v.getLsbD n then 1 else 0
    (passesChecks v = true ↔
      (lane 8 + lane 0 + lane 2 + lane 4 + lane 6) % 2 = 1 ∧ (lane 9 + lane 1 + lane 3 + lane 5 + lane 7) % 2 = 1) ∧
    dataLanes v = v.extractLsb' 0 8) ∧
  (∀ b : Byte, passesChecks (frameOf b) = true ∧ dataLanes (frameOf b) = b) ∧
  (∀ a : Assembly,
    (selectFrame a).skew = a.skew ∧ (selectFrame a).strong = a.strong ∧
    (passesChecks a.strong = true → a.weak = a.strong →
      (selectFrame a).status = .clean ∧ (selectFrame a).value = a.strong) ∧
    (passesChecks a.strong = true → a.weak ≠ a.strong →
      (selectFrame a).status = .marginal ∧ (selectFrame a).value = a.strong) ∧
    (passesChecks a.strong = false → passesChecks a.weak = true →
      (selectFrame a).status = .corrected ∧ (selectFrame a).value = a.weak) ∧
    (passesChecks a.strong = false → passesChecks a.weak = false →
      (selectFrame a).status = .unreadable ∧ (selectFrame a).value = a.strong) ∧
    ((selectFrame a).readable = true ↔
      (selectFrame a).status = .clean ∨ (selectFrame a).status = .marginal ∨ (selectFrame a).status = .corrected)) ∧
  (∀ (v : Lanes) (l : Lane) (a : Assembly), passesChecks v = true → v.getLsbD l.val = true →
    a.strong = v &&& ~~~(laneBit l) →
    (a.weak = v → (selectFrame a).status = .corrected ∧ (selectFrame a).value = v) ∧
    (a.weak = a.strong → (selectFrame a).status = .unreadable ∧ (selectFrame a).value = v &&& ~~~(laneBit l)))

/-- R85, R87, R103 to R106, R108, R112, R174, R179, R184: a frame that closes is handed on. In READBACK the Verify Unit disregards it in
IDLE, records EXTRA with its window empty, and else judges it by Table 6-2 against its oldest entry. The LCF's read-back, or after the
blank-LCF notice the removal that empties the window (R109), gives the copy's verdict, and the second trailer frame's the trailer verdict,
at which the copy is described committed or with trailer none and enters the catalogue (R78, R114, R128); no other removal gives one (R108,
R112). An ABORT or a CONTROL RESET that waits makes the copy's trailer a void one (R196, R199). Every frame judged is counted (R107). In
PARSE it joins the run, which keeps what R86 says, and a data frame of an eligible run gives its byte to the command's buffer or to the
stream queue. A frame whose run an event of R95 has ended with it gives nothing at its close (log 21: the model's choice). A byte lost to a
full queue marks the run and gives the command OVERRUN. -/
def Obligations.ClosedFrameIsHandedOn : Prop :=
  (∀ (strict : Bool) (f : ReadFrame) (e : WindowEntry),
    (e.role ≠ .lcf →
      (f.status = .unreadable → judge strict f e = some .unreadable) ∧
      (f.status ≠ .unreadable → f.value ≠ e.value → judge strict f e = some .value) ∧
      (f.status = .marginal → f.value = e.value → judge strict f e = if strict then some .marginal else none) ∧
      ((f.status = .clean ∨ f.status = .corrected) → f.value = e.value →
        judge strict f e = if strict = true ∧ f.skew = true then some .skew else none)) ∧
    (e.role = .lcf →
      (f.strong ≠ e.value → judge strict f e = some .value) ∧
      (f.strong = e.value → judge strict f e = if strict = true ∧ f.skew = true then some .skew else none))) ∧
  (∀ (v : VerifyUnit) (f : ReadFrame) (e : WindowEntry), v.corrected ≤ 255 → v.marginal ≤ 255 → v.skew ≤ 15 →
    v.tally f e =
      { v with
        corrected := if e.role ≠ .lcf ∧ f.status = .corrected then min (v.corrected + 1) 255 else v.corrected
        marginal := if e.role ≠ .lcf ∧ f.status = .marginal then min (v.marginal + 1) 255 else v.marginal
        skew := if f.skew then min (v.skew + 1) 15 else v.skew
        soft :=
          if v.state = .listening ∧ (e.role = .header ∨ e.role = .data) ∧
              (f.status = .corrected ∨ f.status = .marginal) then true
          else v.soft }) ∧
  (∀ (r : Run) (f : ReadFrame),
    r.join f =
      { r with
        length := r.length + 1, xor := r.xor ^^^ f.value, first := (r.first ++ [f]).take 3, last := (f :: r.last).take 3
        tallies :=
          { corrected := if f.status = .corrected then r.tallies.corrected + 1 else r.tallies.corrected
            marginal := if f.status = .marginal then r.tallies.marginal + 1 else r.tallies.marginal
            unreadable := if f.status = .unreadable then r.tallies.unreadable + 1 else r.tallies.unreadable
            skewed := if f.skew then r.tallies.skewed + 1 else r.tallies.skewed } }) ∧
  ∀ (x : Assembly) (s : State), s.undisturbed = true → s.fr.frame = some x →
    let f := selectFrame x
    let first (old : Option FailureKind) (new : Option FailureKind) : Option FailureKind :=
      match old with
      | some k => some k
      | none => new
    (s.fr.mode = .readback → s.vu.state = .idle →
      exec .frameClose s = .next { s with fr := { s.fr with frame := none } }) ∧
    (s.fr.mode = .readback → s.vu.window = [] →
      (s.vu.state = .listening →
        exec .frameClose s = .next
          { s with
            fr := { s.fr with frame := none }
            vu := { s.vu with copyFailure := first s.vu.copyFailure (some .extra) } }) ∧
      (s.vu.state = .trailerCheck →
        exec .frameClose s = .next
          { s with
            fr := { s.fr with frame := none }
            vu := { s.vu with trailerFailure := first s.vu.trailerFailure (some .extra) } })) ∧
    (∀ (a : Active) (e e' : WindowEntry) (rest : List WindowEntry), s.fr.mode = .readback → s.vu.state = .listening →
      s.oc = .active a → s.vu.window = e :: e' :: rest →
      exec .frameClose s = .next
        { s with
          fr := { s.fr with frame := none }
          vu :=
            VerifyUnit.tally
              { s.vu with
                window := e' :: rest
                copyFailure := first s.vu.copyFailure (judge a.profile.strict f e) }
              f e }) ∧
    (∀ (a : Active) (e : WindowEntry) (rest : List WindowEntry), s.fr.mode = .readback → s.oc = .active a →
      s.vu.window = e :: rest →
      (s.vu.state = .listening → rest = [] → e.role ≠ .lcf → s.vu.blankNotice = false →
        exec .frameClose s = .next
          { s with
            fr := { s.fr with frame := none }
            vu :=
              VerifyUnit.tally
                { s.vu with
                  window := []
                  copyFailure := first s.vu.copyFailure (judge a.profile.strict f e) }
                f e }) ∧
      (s.vu.state = .trailerCheck → (rest ≠ [] ∨ e.role ≠ .trailer ∨ e.index ≠ 1) →
        exec .frameClose s = .next
          { s with
            fr := { s.fr with frame := none }
            vu :=
              VerifyUnit.tally
                { s.vu with
                  window := rest
                  trailerFailure := first s.vu.trailerFailure (judge a.profile.strict f e) }
                f e })) ∧
    (∀ (a : Active) (e : WindowEntry), s.fr.mode = .readback → s.oc = .active a → s.vu.window = [e] →
      let counted (t : State) : Prop :=
        t.vu.corrected = (s.vu.tally f e).corrected ∧ t.vu.marginal = (s.vu.tally f e).marginal ∧
          t.vu.skew = (s.vu.tally f e).skew
      (s.vu.state = .listening → (e.role = .lcf ∨ s.vu.blankNotice = true) →
        let soft : Bool :=
          s.vu.soft ||
            ((decide (e.role = .header) || decide (e.role = .data)) &&
              (decide (f.status = .corrected) || decide (f.status = .marginal)))
        ∃ t, exec .frameClose s = .next t ∧
          givesVerdict a (first s.vu.copyFailure (judge a.profile.strict f e)) soft s t ∧ counted t) ∧
      (s.vu.state = .trailerCheck → e.role = .trailer → e.index = 1 → s.hw.resetPending = false →
        let failure := first s.vu.trailerFailure (judge a.profile.strict f e)
        (failure = none →
          ∃ t, exec .frameClose s = .next t ∧ endsInFinish a .done 16 s t ∧ t.vu.state = .idle ∧ counted t ∧
            copyDescribed a .sealed .commit s t) ∧
        (∀ k, failure = some k →
          ∃ t, exec .frameClose s = .next t ∧ endsInFinish a .trailerFailed 16 s t ∧ t.vu.reported = some k ∧ counted t ∧
            copyDescribed a .trailerFailed .none s t))) ∧
    (∀ rev : Bool, s.fr.mode = .parse rev → x.handed = true →
      exec .frameClose s = .next { s with fr := { s.fr with frame := none } }) ∧
    (∀ (rev : Bool) (r : Run), s.fr.mode = .parse rev → x.handed = false → s.fr.run = some r →
      let joined := r.join f
      let byte := dataLanes f.value
      let index := r.length - 3
      ((r.eligible = false ∨ r.length < 3 ∨ s.active = none) →
        exec .frameClose s = .next { s with fr := { s.fr with frame := none, run := some joined } }) ∧
      (∀ a : Active, r.eligible = true → 3 ≤ r.length → s.oc = .active a →
        (a.cmd.count ≤ index →
          exec .frameClose s = .next
            { s with fr := { s.fr with frame := none, run := some { joined with lengthExcess := true } } }) ∧
        (index < a.cmd.count → s.fr.account.stopped = true →
          exec .frameClose s = .next { s with fr := { s.fr with frame := none, run := some joined } }) ∧
        (index < a.cmd.count → s.fr.account.stopped = false → a.cmd.code = .read →
          let old := s.bu.buffer a.cmd.buffer
          old.fill < 4096 → old.contents.wf = true →
          ∃ new : RecordBuffer,
            exec .frameClose s = .next
              { s with
                fr := { s.fr with frame := none, run := some joined }
                bu := s.bu.setBuffer a.cmd.buffer new
                oc := .active { a with bytes := a.bytes + 1 } } ∧
              new.fill = old.fill + 1 ∧ new.pointer = old.pointer ∧ new.committed = old.committed ∧
              new.contents.wf = true ∧ new.contents.read old.fill = byte ∧
              (∀ n, n ≠ old.fill → new.contents.read n = old.contents.read n)) ∧
        (index < a.cmd.count → s.fr.account.stopped = false → a.cmd.code = .readStream → s.bu.stream.length < 64 →
          exec .frameClose s = .next
            { s with
              fr := { s.fr with frame := none, run := some joined }
              bu := { s.bu with stream := s.bu.stream ++ [byte] }
              oc := .active { a with bytes := a.bytes + 1 } }) ∧
        (index < a.cmd.count → s.fr.account.stopped = false → a.cmd.code = .readStream → 64 ≤ s.bu.stream.length →
          exec .frameClose s = .next
            { s with
              fr := { s.fr with frame := none, run := some { joined with overrun := true } }
              oc := .active { a with qualifiers := { a.qualifiers with overrun := true } } })))

/-- R14, R82, R83, R87: the pulse that opens a frame, the pulses sampled before the half-period point, the point itself and the pulses
after it; in IDLE the read lanes are disregarded. In PARSE the opening joins the run in progress or starts one, whose eligibility it
decides, and starts the run's count of ticks from zero. -/
def Obligations.LanePulsesAssembleAFrame : Prop :=
  ∀ (u : UnitId) (l : Lane) (strong : Bool) (s : State), s.undisturbed = true → s.tlc.selected = some u →
    (s.fr.mode = .idle → exec (.readLanePulse u l strong) s = .next s) ∧
    (s.fr.mode = .readback → s.fr.frame = none →
      ((strong = true ∨ s.fr.weakStart = true) →
        exec (.readLanePulse u l strong) s = .next
          { s with
            fr :=
              { s.fr with
                frame :=
                  some
                    { strong := if strong then laneBit l else 0, weak := laneBit l, sampling := true, skew := false,
                      age := 0, handed := false } } }) ∧
      (strong = false → s.fr.weakStart = false → exec (.readLanePulse u l strong) s = .next s)) ∧
    (∀ rev : Bool, s.fr.mode = .parse rev → s.fr.frame = none →
      ((strong = true ∨ s.fr.weakStart = true) →
        let opens (r : Run) : Prop :=
          exec (.readLanePulse u l strong) s = .next
            { s with
              fr :=
                { s.fr with
                  frame :=
                    some
                      { strong := if strong then laneBit l else 0, weak := laneBit l, sampling := true, skew := false,
                        age := 0, handed := false }
                  run := some r, runCount := 0 } }
        (∀ r, s.fr.run = some r → opens r) ∧
        (s.fr.run = none →
          let starts (eligible : Bool) : Prop :=
            opens
              { length := 0, xor := 0, first := [], last := [],
                tallies := { corrected := 0, marginal := 0, unreadable := 0, skewed := 0 }, eligible := eligible,
                lengthExcess := false, overrun := false }
          let eligible : Prop :=
            rev = false ∧ (∃ a, s.oc = .active a ∧ (a.cmd.code = .read ∨ a.cmd.code = .readStream)) ∧
              s.fr.account.receiving = true ∧ ∀ o, s.fr.record = some o → o.received = false
          (eligible → starts true) ∧ (¬eligible → starts false))) ∧
      (strong = false → s.fr.weakStart = false → exec (.readLanePulse u l strong) s = .next s)) ∧
    (∀ x : Assembly, s.fr.mode ≠ .idle → s.fr.frame = some x →
      (x.sampling = true →
        exec (.readLanePulse u l strong) s = .next
          { s with
            fr :=
              { s.fr with
                frame :=
                  some
                    { x with
                      strong := if strong then x.strong ||| laneBit l else x.strong
                      weak := x.weak ||| laneBit l } } }) ∧
      (x.sampling = false →
        exec (.readLanePulse u l strong) s = .next
          { s with fr := { s.fr with frame := some { x with skew := x.skew || strong } } }) ∧
      exec .halfPeriodPoint s = .next { s with fr := { s.fr with frame := some { x with sampling := false } } })

/-! ### Runs, limits and deadlines -/

/-- R14, R15, R18, R19, R48, R53, R88 to R94, R97 to R99, R161, R162, R164, R165, R197, R199: what a run break makes of the run, after what
the header and the trailer of a run decode to (R90, R91). Forward: a header run in GAP opens a record, a one-frame run is the LCF of the
record open without one and a fragment elsewhere, a two-frame run closes the open record with the trailer it carries, and a header run
closes an older record unsealed before it opens its own; in check manner the run's tallies join the command account, those of the run that
makes a close before its posting (R99; log 16: the model's reading). In reverse: an LCF or a trailer opens a record, a trailer displaces
one, a header run completes it, in FINISH and for a command in force. The record is passed to the catalogue, and then its close means to the
command what its completion point says: a SPACE, SPACE MARKS or LOCATE (`closeCounts`), the record of TURN, which ends its LOCATE and is not
counted, and a READ or READ STREAM, which goes on over a record it did not receive, completes with the ranked outcome of the one it
received, or passes a skipped void, whose DATA CHECK it carries on (log 35); that its fill and byte count return to 0 is R98's. Under an
abort mark the close ends the command ABORTED, with the record's conditions; with a CONTROL RESET pending the reset takes effect in place of
the close (log 36 on the bytes of a void). A record open in RAMP closes as at speed, the phase stays RAMP and the search count waits for AT
SPEED (log 18). The model's choices and readings: where the record is lost to fragments, the command or the reset that waited for it ends
there (log 13); after the posting or the reset, the record that the same header run opens is no longer received (log 17); the search count
stands in the stop and the reverse ramp of TURN (log 48); and the words of the trailer frames have lanes E and O in bits 8 and 9 (log 1). -/
def Obligations.RunBreakOpensAndClosesRecords : Prop :=
  (∀ (r : Run) (reverse : Bool) (h0 h1 h2 : ReadFrame), (if reverse then r.last else r.first) = [h0, h1, h2] →
    let h := r.decodeHeader reverse
    let frames := r.length - 3
    let valid : Prop :=
      h0.status ≠ .unreadable ∧ h1.status ≠ .unreadable ∧ h2.status ≠ .unreadable ∧ h0.value.extractLsb' 4 4 = 0#4
    (valid →
      h.ident =
          some
            { ordinal := h1.value.extractLsb' 0 8 ++ h2.value.extractLsb' 0 8, copy := h0.value.extractLsb' 1 3 } ∧
        h.kind = (if h0.value.getLsbD 0 then .mark else .data) ∧ h.bad = false) ∧
    (¬valid → h.ident = none ∧ h.kind = .data ∧ h.bad = true) ∧ h.length = min frames 4096 ∧
    h.long = decide (4096 < frames) ∧
    h.malformed = (if h.kind = .mark then decide (0 < frames) else decide (frames = 0)) ∧
    h.unreadable = decide (0 < r.tallies.unreadable) ∧
    h.soft = (decide (0 < r.tallies.corrected) || decide (0 < r.tallies.marginal))) ∧
  (∀ (r : Run) (reverse : Bool) (x y : ReadFrame), r.first = (if reverse then [y, x] else [x, y]) →
    let readable : Prop := x.status ≠ .unreadable ∧ y.status ≠ .unreadable
    (r.trailerPattern reverse = some .commit ↔ readable ∧ x.value = 0x33C#10 ∧ y.value = 0x3C3#10) ∧
    (r.trailerPattern reverse = some .void ↔ readable ∧ x.value = 0x366#10 ∧ y.value = 0x399#10)) ∧
  ∀ (r : Run) (s : State), s.undisturbed = true → s.fr.run = some r → 2 ≤ s.fr.runCount → s.fr.frame = none →
    let opened (h : Option Header) (lcf : Bool) (k : Option TrailerKind) : OpenRecord :=
      { header := h, lcf := lcf, trailer := k, received := false, lengthExcess := false, overrun := false }
    let next : OpenRecord :=
      { opened (some (r.decodeHeader false)) false none with
        received := r.eligible, lengthExcess := r.lengthExcess, overrun := r.overrun }
    let added (corrected marginal skew : Nat) : ReadAccount :=
      if s.fr.manner = .check then
        { s.fr.account with
          corrected := min (s.fr.account.corrected + corrected) 255
          marginal := min (s.fr.account.marginal + marginal) 255, skew := min (s.fr.account.skew + skew) 15 }
      else s.fr.account
    let tallied : ReadAccount := added r.tallies.corrected r.tallies.marginal r.tallies.skewed
    let fragment : FrameReader := { s.fr with run := none, account := { s.fr.account with fragments := true } }
    let reads (fr : FrameReader) : Prop := exec .runBreak s = .next { s with fr := fr }
    let opens (a : Active) (fr : FrameReader) : Prop :=
      exec .runBreak s = .next
        { s with
          oc := .active { a with phase := if a.phase = .search then .record else a.phase }
          timer := if a.phase = .search then { s.timer with phase := some 0, target := none } else s.timer
          fr := fr }
    let passedForward (u : UnitId) (i : RecordInfo) : RecordCatalogue := (placeForward u i false s).rc
    let passedReverse (u : UnitId) (i : RecordInfo) : RecordCatalogue := (placeReverse u i s).rc
    let shown (k : Option TrailerKind) : Trailer :=
      match k with
      | none => .none
      | some .commit => .commit
      | some .void => .void
    let reaches (placed : RecordCatalogue) (more : State → Prop) : Prop :=
      ∃ t, exec .runBreak s = .next t ∧ t.rc = placed ∧ more t
    let closes (placed : RecordCatalogue) (more : State → Prop) : Prop :=
      reaches placed fun t => t.fr.record = none ∧ more t
    let inRecord (a : Active) : Prop := a.phase = .record ∨ a.phase = .turnRamp ∨ a.phase = .turnPass
    let reading (a : Active) : Prop := a.phase = .record ∨ a.phase = .ramp
    let gap (a : Active) : Phase := if a.phase = .ramp then .ramp else .search
    let restarted (a : Active) : Option Nat := if a.phase = .ramp then none else some 0
    let receives (a : Active) : Prop := a.cmd.code = .read ∨ a.cmd.code = .readStream
    let completes (a : Active) (o : OpenRecord) (h : Header) (k : Trailer) (outcome : CmdOutcome) (t : State) : Prop :=
      let discarded : Prop := a.cmd.code = .read ∧ o.received = true ∧ k = .void
      endsInFinish a outcome 16 s t ∧
        (discarded → t.bu.buffer a.cmd.buffer = { s.bu.buffer a.cmd.buffer with committed := false, fill := 0 }) ∧
        (¬discarded → ∀ b : BufferId, (t.bu.buffer b).fill = (s.bu.buffer b).fill) ∧
        ∀ c, t.cmp = s.cmp.place c →
          carriesClose a o h k outcome s c ∧
            (receives a →
              (discarded → c.byteCount = 0) ∧ (¬discarded → c.byteCount = a.bytes) ∧
                c.corrected = tallied.corrected ∧ c.marginal = tallied.marginal ∧ c.skew = tallied.skew ∧
                c.qualifiers.corrected = decide (0 < tallied.corrected) ∧
                c.qualifiers.marginal = decide (0 < tallied.marginal) ∧ c.qualifiers.skew = decide (0 < tallied.skew))
    (s.fr.mode = .parse false →
      (∀ a : Active, s.oc = .active a → a.phase ≠ .record → s.fr.record = none →
        (3 ≤ r.length →
          opens a
            { s.fr with
              run := none, record := some next, acc := r.xor, closeCount := s.fr.runCount, search := none
              account := tallied }) ∧
        ((r.length = 1 ∨ r.length = 2) → reads fragment)) ∧
      (∀ (a : Active) (o : OpenRecord) (x : ReadFrame), s.oc = .active a → a.phase ≠ .search → s.fr.record = some o →
        r.length = 1 → r.first = [x] →
        (o.lcf = false →
          reads
            { s.fr with
              run := none, record := some { o with lcf := true }, acc := s.fr.acc ^^^ x.strong,
              closeCount := s.fr.runCount, account := added 0 0 r.tallies.skewed }) ∧
        (o.lcf = true → reads fragment)) ∧
      (∀ (o : OpenRecord) (h : Header) (u : UnitId), s.fr.record = some o → o.header = some h → r.length = 2 →
        s.tlc.selected = some u →
        let k := shown (r.trailerPattern false)
        let placed := passedForward u (s.readRecord h k)
        (∀ f, s.oc = .finishing f →
          exec .runBreak s = .next
            { s with
              rc := placed
              fr := { s.fr with run := none, record := none, closeCount := 0, search := none } }) ∧
        (∀ a, s.oc = .active a → inRecord a → s.hw.resetPending = true → closes placed (resetTaken s)) ∧
        (∀ a, s.oc = .active a → inRecord a → s.hw.resetPending = false → a.abortMark = true →
          closes placed (completes a o h k .aborted)) ∧
        (∀ a, s.oc = .active a → reading a → s.hw.resetPending = false → a.abortMark = false →
          closes placed (closeCounts a h k (gap a) s) ∧
          (receives a → o.received = false →
            closes placed fun t =>
              t.oc =
                  .active
                    { a with
                      phase := gap a
                      qualifiers := { a.qualifiers with longRecord := a.qualifiers.longRecord || h.long } } ∧
                t.fr.search = restarted a ∧ t.fr.account = tallied ∧ t.cmp = s.cmp ∧ t.cu = s.cu ∧ t.bu = s.bu) ∧
          (receives a → o.received = true →
            let bad := s.badRecord h
            let ends (outcome : CmdOutcome) : Prop :=
              closes placed fun t => completes a o h k outcome t ∧ t.fr.account.receiving = false
            (k = .none → ends .unsealed) ∧
            (k = .commit → bad = true → ends .dataCheck) ∧
            (k = .commit → bad = false → o.overrun = true → ends .overrun) ∧
            (k = .commit → bad = false → o.overrun = false → o.lengthExcess = true → ends .lengthExcess) ∧
            (k = .commit → bad = false → o.overrun = false → o.lengthExcess = false →
              ends (if h.kind = .mark then .mark else .done)) ∧
            (k = .void → a.cmd.code = .readStream → ends .voidRead) ∧
            (k = .void → a.cmd.code = .read → 8 ≤ s.fr.account.voids + 1 → ends .voidLimit) ∧
            (k = .void → a.cmd.code = .read → s.fr.account.voids + 1 < 8 →
              closes placed fun t =>
                ∃ b, t.oc = .active b ∧ b.cmd = a.cmd ∧ b.phase = gap a ∧ b.bytes = 0 ∧
                  b.passed = a.passedAfter k true ∧ b.ordinal = h.ident.map Ident.ordinal ∧
                  b.qualifiers.dataCheck = (a.qualifiers.dataCheck || bad) ∧
                  b.qualifiers.lengthExcess = (a.qualifiers.lengthExcess || o.lengthExcess) ∧
                  t.bu = s.bu.setFill a.cmd.buffer 0 ∧
                  t.fr.account = { tallied with voids := s.fr.account.voids + 1 } ∧ t.fr.search = restarted a ∧
                  t.cmp = s.cmp)))) ∧
      (∀ (o : OpenRecord) (h : Header) (u : UnitId), s.fr.record = some o → o.header = some h → 3 ≤ r.length →
        s.tlc.selected = some u →
        let placed := passedForward u (s.readRecord h .none)
        let opensNext (t : State) : Prop :=
          t.fr.run = none ∧ t.fr.acc = r.xor ∧ t.fr.closeCount = s.fr.runCount ∧ t.fr.search = none ∧
            ∃ received, t.fr.record = some { next with received := received }
        let opensUnreceived (t : State) : Prop := opensNext t ∧ t.fr.record = some { next with received := false }
        (∀ f, s.oc = .finishing f →
          exec .runBreak s = .next
            { s with
              rc := placed
              fr :=
                { s.fr with
                  run := none, record := some next, acc := r.xor, closeCount := s.fr.runCount, search := none } }) ∧
        (∀ a, s.oc = .active a → inRecord a → s.hw.resetPending = true →
          reaches placed fun t => resetTaken s t ∧ (t.oc = .stopping → opensUnreceived t)) ∧
        (∀ a, s.oc = .active a → inRecord a → s.hw.resetPending = false → a.abortMark = true →
          reaches placed fun t => completes a o h .none .aborted t ∧ opensUnreceived t) ∧
        (∀ a, s.oc = .active a → reading a → a.abortMark = false → s.hw.resetPending = false →
          (s.underWay u → (s.link u).lines.moving = true →
            reaches placed fun t => opensNext t ∧ closeCounts a h .none a.phase s t) ∧
          (receives a → o.received = false →
            reaches placed fun t =>
              opensNext t ∧ t.fr.record = some next ∧
                t.oc =
                  .active
                    { a with
                      qualifiers := { a.qualifiers with longRecord := a.qualifiers.longRecord || h.long } } ∧
                t.fr.account = tallied ∧ t.cmp = s.cmp ∧ t.cu = s.cu ∧ t.bu = s.bu) ∧
          (receives a → o.received = true →
            reaches placed fun t =>
              completes a o h .none .unsealed t ∧ t.fr.account.receiving = false ∧ opensUnreceived t)))) ∧
    (s.fr.mode = .parse true → s.fr.manner = .pass →
      (∀ f, s.oc = .finishing f →
        (∀ x, r.length = 1 → r.first = [x] →
          (s.fr.record = none →
            reads
              { s.fr with
                run := none, record := some (opened none true none), acc := x.strong, closeCount := s.fr.runCount,
                search := none }) ∧
          (∀ o, s.fr.record = some o → o.lcf = false →
            reads
              { s.fr with
                run := none, record := some { o with lcf := true }, acc := s.fr.acc ^^^ x.strong,
                closeCount := s.fr.runCount }) ∧
          (∀ o, s.fr.record = some o → o.lcf = true → reads { s.fr with run := none })) ∧
        (r.length = 2 →
          (∀ k, r.trailerPattern true = some k →
            reads
              { s.fr with
                run := none, record := some (opened none false (some k)), acc := 0, closeCount := s.fr.runCount,
                search := none }) ∧
          (r.trailerPattern true = none → reads { s.fr with run := none })) ∧
        (∀ u, 3 ≤ r.length → s.tlc.selected = some u →
          let h := r.decodeHeader true
          (s.fr.record = none →
            exec .runBreak s = .next
              { s with
                rc := passedReverse u (s.readRecord h .none)
                fr := { s.fr with run := none, closeCount := 0, search := none, acc := r.xor } }) ∧
          (∀ o, s.fr.record = some o →
            exec .runBreak s = .next
              { s with
                rc := passedReverse u (s.readRecord h (shown o.trailer))
                fr :=
                  { s.fr with
                    run := none, record := none, closeCount := 0, search := none, acc := s.fr.acc ^^^ r.xor } }))) ∧
      (∀ a : Active, s.oc = .active a → a.phase ≠ .record → s.fr.record = none →
        (∀ x, r.length = 1 → r.first = [x] →
          opens a
            { s.fr with
              run := none, record := some (opened none true none), acc := x.strong, closeCount := s.fr.runCount,
              search := none }) ∧
        (r.length = 2 →
          (∀ k, r.trailerPattern true = some k →
            opens a
              { s.fr with
                run := none, record := some (opened none false (some k)), acc := 0, closeCount := s.fr.runCount,
                search := none }) ∧
          (r.trailerPattern true = none → reads fragment))) ∧
      (∀ (a : Active) (o : OpenRecord), s.oc = .active a → a.phase ≠ .search → s.fr.record = some o →
        (∀ x, r.length = 1 → r.first = [x] →
          (o.lcf = false →
            reads
              { s.fr with
                run := none, record := some { o with lcf := true }, acc := s.fr.acc ^^^ x.strong,
                closeCount := s.fr.runCount }) ∧
          (o.lcf = true → reads fragment)) ∧
        (r.length = 2 →
          (r.trailerPattern true = none → reads fragment) ∧
          (∀ k, r.trailerPattern true = some k →
            let displaced : FrameReader :=
              { fragment with
                record := some (opened none false (some k)), acc := 0, closeCount := s.fr.runCount, search := none }
            (s.hw.resetPending = false → a.abortMark = false → reads displaced) ∧
            (s.hw.resetPending = false → a.abortMark = true →
              reaches s.rc fun t =>
                endsInFinish a .aborted 16 s t ∧ t.fr = displaced ∧
                  ∀ c, t.cmp = s.cmp.place c → c.qualifiers.fragments = a.cmd.code.readClass) ∧
            (s.hw.resetPending = true →
              reaches s.rc fun t =>
                resetTaken s t ∧ (t.oc = .stopping → t.fr = { displaced with account := t.fr.account }))))) ∧
      (∀ (a : Active) (u : UnitId), s.oc = .active a → s.tlc.selected = some u → 3 ≤ r.length →
        let h := r.decodeHeader true
        let k : Trailer := shown (s.fr.record.bind OpenRecord.trailer)
        let placed := passedReverse u (s.readRecord h k)
        (inRecord a → s.hw.resetPending = true → closes placed (resetTaken s)) ∧
        (inRecord a → s.hw.resetPending = false → a.abortMark = true →
          closes placed fun t =>
            endsInFinish a .aborted 16 s t ∧
              ∀ c, t.cmp = s.cmp.place c → a.cmd.code.readClass = true → a.cmd.code ≠ .read → a.cmd.code ≠ .readStream →
                c.passed = a.passedAfter k false ∧ c.ordinal = h.ident.map Ident.ordinal) ∧
        ((a.phase = .search ∨ reading a) → s.hw.resetPending = false → a.abortMark = false →
          closes placed (closeCounts a h k (gap a) s)) ∧
        ((a.phase = .turnRamp ∨ a.phase = .turnPass) → a.cmd.code = .locate → s.hw.resetPending = false →
          a.abortMark = false →
          closes placed fun t =>
            endsInFinish a .done 16 s t ∧
              ∀ c, t.cmp = s.cmp.place c → c.passed = a.passed ∧ c.ordinal = h.ident.map Ident.ordinal)))

/-- R16, R48, R53, R88, R89, R93, R197, R199: at the close limit the open record closes unsealed going forward, and the close means to the
active command what any other means (`closeCounts`, UNSEALED to the READ that received it, nothing to one that did not, ABORTED with the
record's conditions under an abort mark, the effect of a CONTROL RESET that waits); in reverse the record's runs become fragments, and the
command or the reset that waited for its close ends there (log 13: the model's choice). In RAMP the phase stays, and there, in the stop and
in the reverse ramp of TURN the search count stands until AT SPEED (log 48: in TURN the model's choice). In HEADER RUN the record stays open
until the run's break (that the third frame counts from its close is the model's choice, log 44), the one tick excepted at which the 96th
count and that break fall together (R16; that the exception reaches a header run is the model's reading, log 37). -/
def Obligations.CloseLimitClosesUnsealed : Prop :=
  ∀ (o : OpenRecord) (u : UnitId) (s : State), s.undisturbed = true → s.tlc.selected = some u → s.fr.record = some o →
    96 ≤ s.fr.closeCount →
    let placed (h : Header) : RecordCatalogue := (placeForward u (s.readRecord h .none) false s).rc
    let closes (h : Header) (more : State → Prop) : Prop :=
      ∃ t, exec .closeLimit s = .next t ∧ t.fr.record = none ∧ t.rc = placed h ∧ more t
    let receives (a : Active) : Prop := a.cmd.code = .read ∨ a.cmd.code = .readStream
    let completes (a : Active) (h : Header) (outcome : CmdOutcome) (t : State) : Prop :=
      endsInFinish a outcome 16 s t ∧
        ∀ c, t.cmp = s.cmp.place c →
          carriesClose a o h .none outcome s c ∧
            (receives a →
              c.byteCount = a.bytes ∧ c.corrected = s.fr.account.corrected ∧ c.marginal = s.fr.account.marginal ∧
                c.skew = s.fr.account.skew)
    ((∀ r, s.fr.run = some r → r.length < 3 ∨ (s.fr.closeCount = 96 ∧ 2 ≤ s.fr.runCount)) →
      (∀ h, s.fr.mode = .parse false → o.header = some h →
        (∀ f, s.oc = .finishing f →
          exec .closeLimit s = .next
            { s with
              rc := placed h
              fr := { s.fr with record := none, closeCount := 0, search := none } }) ∧
        (∀ a, s.oc = .active a → a.phase = .record → s.hw.resetPending = true →
          ∃ t, exec .closeLimit s = .next t ∧ resetTaken s t ∧ t.fr.record = none ∧ (s.fr.run = none → t.rc = placed h)) ∧
        (∀ a, s.oc = .active a → a.phase = .record → s.hw.resetPending = false → a.abortMark = true →
          closes h (completes a h .aborted)) ∧
        (∀ a, s.oc = .active a → (a.phase = .record ∨ a.phase = .ramp) → s.hw.resetPending = false → a.abortMark = false →
          let gap : Phase := if a.phase = .ramp then .ramp else .search
          closes h (closeCounts a h .none gap s) ∧
          (receives a → o.received = false →
            closes h fun t =>
              t.oc =
                  .active
                    { a with
                      phase := gap
                      qualifiers := { a.qualifiers with longRecord := a.qualifiers.longRecord || h.long } } ∧
                t.fr.search = (if a.phase = .ramp then none else some 0) ∧ t.fr.account = s.fr.account ∧ t.cmp = s.cmp ∧
                t.cu = s.cu ∧ t.bu = s.bu) ∧
          (receives a → o.received = true →
            closes h fun t => completes a h .unsealed t ∧ t.fr.account.receiving = false))) ∧
      (s.fr.mode = .parse true →
        (∀ f, s.oc = .finishing f →
          exec .closeLimit s = .next { s with fr := { s.fr with record := none, closeCount := 0, search := none } }) ∧
        (∀ a, s.oc = .active a → (a.phase = .record ∨ a.phase = .ramp ∨ a.phase = .turnPass ∨ a.phase = .turnRamp) →
          let lost : FrameReader :=
            { s.fr with
              record := none, closeCount := 0, search := if a.phase = .ramp ∨ a.phase = .turnRamp then none else some 0
              account := { s.fr.account with fragments := true } }
          (s.hw.resetPending = true → ∃ t, exec .closeLimit s = .next t ∧ resetTaken s t ∧ t.fr.record = none) ∧
          (s.hw.resetPending = false → a.abortMark = true →
            ∃ t, exec .closeLimit s = .next t ∧ endsInFinish a .aborted 16 s t ∧ t.fr.record = none ∧ t.rc = s.rc) ∧
          (s.hw.resetPending = false → a.abortMark = false →
            (a.phase = .record →
              exec .closeLimit s = .next
                { s with
                  oc := .active { a with phase := .search }
                  timer := { s.timer with phase := some 0, target := none }
                  fr := lost }) ∧
            (a.phase ≠ .record → exec .closeLimit s = .next { s with fr := lost }))))) ∧
    (∀ r, s.fr.run = some r → 3 ≤ r.length → (96 < s.fr.closeCount ∨ s.fr.runCount < 2) →
      exec .closeLimit s = .next s)

/-- R17, R52, R56: the search limit ends a read-class operation BLANK, and the erase count ends ERASE GAP DONE, each with the
finishing distance of 16. -/
def Obligations.SearchAndEraseLimitsPost : Prop :=
  ∀ (a : Active) (s : State), s.undisturbed = true → s.hw.resetPending = false → s.oc = .active a →
    (∀ n, s.fr.search = some n → 4000 ≤ n →
      ∃ t, exec .searchLimit s = .next t ∧ endsInFinish a .blank 16 s t ∧ t.tlc = s.tlc ∧ t.rc = s.rc) ∧
    (∀ n k, a.phase = .erase → s.timer.target = some n → s.timer.phase = some k → n ≤ k →
      ∃ t, exec .eraseEnd s = .next t ∧ endsInFinish a .done 16 s t ∧ t.fw = s.fw ∧ t.tlc = s.tlc ∧ t.rc = s.rc)

/-- R10, R11, R51, R67: at the end of GUARD, of LEADER and of REWRITE GAP a copy begins: the account is filled, the accumulator starts
from zero and H0 is written; the rewrite's copy number is one higher and its ordinal the same. R3: what H0, H1 and H2 hold; R62:
where the data frames come from. R102, R103, R105: what an entry handed to the Verify Unit does there, H0's and the first commit
trailer frame's among them. -/
def Obligations.CopyBeginsWithH0 : Prop :=
  (∀ c : Command,
    sourceOf c = match c.code with | .write => .buffer c.buffer | .writeStream => .stream | _ => .none) ∧
  (∀ (kind : Kind) (copy : Nat) (ordinal : Word), copy ≤ 7 →
    let h0 := headerByte kind copy ordinal 0
    h0 = headerZero kind copy ∧ h0.getLsbD 0 = decide (kind = .mark) ∧ (h0.extractLsb' 1 3).toNat = copy ∧
      h0.extractLsb' 4 4 = 0#4 ∧ headerByte kind copy ordinal 1 = ordinal.extractLsb' 8 8 ∧
      headerByte kind copy ordinal 2 = ordinal.extractLsb' 0 8) ∧
  (∀ (v : VerifyUnit) (e : WindowEntry),
    let taken : VerifyUnit :=
      if e.role = .header ∧ e.index = 0 then
        { v with
          state := if v.state = .idle then .listening else v.state, copyFailure := none, soft := false,
          blankNotice := false }
      else if e.role = .trailer ∧ e.index = 0 then
        { v with state := if v.state = .idle then .trailerCheck else v.state, trailerFailure := none }
      else v
    (v.window.length < 64 → v.push e = { taken with window := v.window ++ [e] }) ∧
    (64 ≤ v.window.length →
      v.push e =
        { taken with
          copyFailure := (match taken.copyFailure with | some k => some k | none => some .overflow) })) ∧
  ∀ (a : Active) (n k : Nat) (s : State), s.undisturbed = true → s.oc = .active a → s.timer.target = some n →
    s.timer.phase = some k → n ≤ k →
    let begins (i : Instr) (copy : Nat) : Prop :=
      let ordinal := a.ordinal.getD (s.nextOrdinal a.cmd.unit)
      let kind : Kind := if a.cmd.code = .writeMark then .mark else .data
      let h0 := frameOf (headerZero kind copy)
      ∃ t, exec i s = .next t ∧
        t.oc =
          .active
            { a with
              phase := .headerData, ordinal := some ordinal, copyCounter := copy, verdict := none, skipped := false } ∧
        t.timer = { s.timer with phase := some 0, target := none } ∧
        t.fw.lanes = h0 ∧ t.fw.strobe = true ∧ t.fw.acc = h0 ∧ t.fw.watch = some .header ∧ t.fw.gate = s.fw.gate ∧
        t.fw.account =
          some
            { kind := kind, ordinal := ordinal, copy := copy, source := sourceOf a.cmd, planned := a.cmd.count,
              headerRun := 1, dataFrames := 0, cut := none, lcf := .pending, trailer := .none, passed := false,
              ended := .inProgress } ∧
        t.vu = s.vu.push { value := h0, role := .header, index := 0 } ∧ t.rc = s.rc ∧ t.bu = s.bu ∧ t.cmp = s.cmp
    (a.phase = .guard → begins .guardEnd a.copyCounter) ∧
    (a.phase = .leader → a.cmd.code ≠ .eraseGap → begins .leaderEnd a.copyCounter) ∧
    (a.phase = .leader → a.cmd.code = .eraseGap →
      exec .leaderEnd s = .next
        { s with
          oc := .active { a with phase := .erase }
          timer := { s.timer with phase := some 0, target := some (a.cmd.count * 100) } }) ∧
    (a.phase = .rewriteGap → begins .rewriteGapEnd (a.copyCounter + 1))

/-- R6, R49, R50, R72, R75, R109: at the LCF place the accumulator is written as the LCF, or the place is left blank when it is zero; the
first trailer frame of the kind ordered is written at its place. A blank LCF that finds the window empty gives the copy's verdict at
once; after a skipped verify pass it goes to a void trailer counted from the LCF place (the ABORTED of an ABORT taken since an
underrun is the model's reading, log 23). With a CONTROL RESET pending the verdict orders a void trailer, pass or fail (R199); the outcome
set aside for it is then never posted. -/
def Obligations.LcfAndTrailerFramesAreWritten : Prop :=
  ∀ (a : Active) (x : CopyAccount) (n k : Nat) (s : State), s.undisturbed = true → s.oc = .active a →
    s.fw.account = some x → s.timer.target = some n → s.timer.phase = some k →
    n ≤ k →
    let deadline : Deadline := { count := 0, target := a.profile.headDistance + 4 }
    (a.phase = .checkSpace → s.fw.acc ≠ 0 →
      exec .lcfPlace s = .next
        { s with
          oc := .active { a with phase := .lcf }
          timer := { phase := some 0, target := none, deadline := some deadline }
          fw :=
            { s.fw with
              acc := 0, watch := some .lcf, lanes := s.fw.acc, strobe := true
              account := some { x with lcf := .written } }
          vu :=
            if a.skipped then s.vu
            else s.vu.push { value := s.fw.acc, role := .lcf, index := x.headerRun } }) ∧
    (a.phase = .checkSpace → s.fw.acc = 0 → a.skipped = false → s.vu.state = .listening → s.vu.window ≠ [] →
      exec .lcfPlace s = .next
        { s with
          oc := .active { a with phase := .drain }
          timer := { phase := some 0, target := none, deadline := some deadline }
          fw := { s.fw with account := some { x with lcf := .blank } }
          vu := { s.vu with blankNotice := true } }) ∧
    (a.phase = .checkSpace → s.fw.acc = 0 → a.skipped = false → s.vu.state = .listening → s.vu.window = [] →
      let pass : Bool := s.vu.copyFailure.isNone
      let commits : Bool := pass && !a.abortMark && !s.hw.resetPending
      exec .lcfPlace s = .next
        { s with
          oc :=
            .active
              { a with
                verdict := some (pass, s.vu.soft)
                phase := if commits then .trailer .commit else .trailer .void
                voidOutcome := if commits then .done else if a.abortMark then .aborted else .verifyFailed }
          timer := { phase := some 0, target := some 4, deadline := none }
          fw := { s.fw with account := some { x with lcf := .blank } }
          vu :=
            { s.vu with
              state := .idle, blankNotice := false
              reported := (match s.vu.copyFailure with | some f => some f | none => s.vu.reported) } }) ∧
    (a.phase = .checkSpace → s.fw.acc = 0 → a.skipped = true →
      exec .lcfPlace s = .next
        { s with
          oc :=
            .active
              { a with
                phase := .trailer .void
                voidOutcome := if a.abortMark = true ∨ x.cut ≠ some .underrun then .aborted else .underrun }
          timer := { phase := some 0, target := some 4, deadline := some deadline }
          fw := { s.fw with account := some { x with lcf := .blank } } }) ∧
    (∀ k : TrailerKind, a.phase = .trailer k → x.trailer = .none →
      let first := frameOf (match k with | .commit => 0x3C | .void => 0x66)
      exec .trailerPlacement s = .next
        { s with
          fw :=
            { s.fw with
              watch := some .trailer, lanes := first, strobe := true, account := some { x with trailer := .first k } }
          vu := if k = .commit then s.vu.push { value := first, role := .trailer, index := 0 } else s.vu })

/-- R50, R78, R110, R113, R114, R128, R196, R199: the drain deadline gives the verdict, and with entries left it is a fail answered with a
void trailer, as a pass is where an ABORT or a CONTROL RESET waits;
the trailer deadline gives the trailer verdict, at which the copy is described, committed or with trailer none, and enters the
catalogue, and the command completes. -/
def Obligations.DeadlinesGiveTheVerdict : Prop :=
  ∀ (a : Active) (d : Deadline) (s : State), s.undisturbed = true → s.oc = .active a →
    s.timer.deadline = some d → d.target ≤ d.count →
    let failed (f : Option FailureKind) : Option FailureKind :=
      match f with
      | some k => some k
      | none => if s.vu.window = [] then none else some .dropped
    (s.vu.state = .listening →
      ∃ t, exec .drainDeadline s = .next t ∧ givesVerdict a (failed s.vu.copyFailure) s.vu.soft s t) ∧
    (s.vu.state = .trailerCheck → s.hw.resetPending = false →
      (failed s.vu.trailerFailure = none →
        ∃ t, exec .trailerDeadline s = .next t ∧ endsInFinish a .done 16 s t ∧ t.vu.state = .idle ∧
          copyDescribed a .sealed .commit s t) ∧
      (∀ k, failed s.vu.trailerFailure = some k →
        ∃ t, exec .trailerDeadline s = .next t ∧ endsInFinish a .trailerFailed 16 s t ∧ t.vu.reported = some k ∧
          copyDescribed a .trailerFailed .none s t))

/-- R29, R53, R57, R96, R152: the end of FINISH chains a fitting head, with a fresh profile copy, or stops the medium. A write-class head
reports its truncation; a read-class head whose direction is the finishing one takes up the parse as it stands, in SEARCH with the search
count from zero or in RECORD, with its own manner and its receiving flag. A forward command chained with END MARKER high carries END
WARNING. That a non-medium head still waiting at the end stops the medium is the model's choice (log 49: its own row carries it out before
the end). The phase `chained` is the model's name (log 12). -/
def Obligations.EndOfFinishChainsOrStops : Prop :=
  ∀ (f : Finishing) (n k : Nat) (s : State), s.undisturbed = true → s.oc = .finishing f → s.timer.target = some n →
    s.timer.phase = some k → n ≤ k →
    (∀ (c : Command) (rest : List Command), s.cu.queue = c :: rest → c.unit = f.unit → s.cmp.held = none →
      let l := s.link c.unit
      let chained (b : Active) (t : State) : Prop :=
        t.cu = { s.cu with queue := rest } ∧ b.cmd = c ∧ b.reverse = c.reverse ∧ b.profile = l.profile ∧
          b.fromRest = false ∧ b.loadPointAtStart = l.lines.loadPoint ∧ b.copyCounter = 0 ∧ b.ordinal = none ∧
          b.passed = 0 ∧ b.abortMark = false ∧
          b.qualifiers.endWarning = (!c.reverse && l.lines.endMarker) ∧
          t.timer = { s.timer with phase := some 0, target := none } ∧ t.tlc = s.tlc ∧ t.fw = s.fw ∧ t.cmp = s.cmp ∧
          t.rc.nextOrdinals = s.rc.nextOrdinals
      (f.writeClass = true → c.code.writeClass = true →
        ∃ t, exec .endOfFinish s = .next t ∧ ∃ b, t.oc = .active b ∧ chained b t ∧ b.phase = .chained ∧
          t.catalogue c.unit = (s.catalogue c.unit).truncate ∧
          t.fr =
            { s.fr with
              weakStart := l.profile.weakStart
              account :=
                { corrected := 0, marginal := 0, skew := 0, fragments := false, voids := 0, receiving := false,
                  stopped := false } }) ∧
      (f.writeClass = false → c.code.readClass = true → c.code ≠ .locate → c.reverse = f.reverse →
        let receives : Bool := decide (c.code = .read) || decide (c.code = .readStream)
        ∃ t, exec .endOfFinish s = .next t ∧ ∃ b, t.oc = .active b ∧ chained b t ∧ t.rc = s.rc ∧
          b.phase = (if s.fr.record.isSome then .record else .search) ∧
          t.fr =
            { s.fr with
              weakStart := l.profile.weakStart
              manner := if receives then .check else .pass
              search := if s.fr.record.isSome then s.fr.search else some 0
              account :=
                { corrected := 0, marginal := 0, skew := 0, fragments := false, voids := 0, receiving := receives,
                  stopped := false } } ∧
          (c.code = .read → (t.bu.buffer c.buffer).fill = 0))) ∧
    ((s.cu.queue = [] ∨ s.cmp.held.isSome = true ∨
        ∃ c rest, s.cu.queue = c :: rest ∧
          (c.unit ≠ f.unit ∨ c.code = .rewind ∨ c.code = .unload ∨ c.code = .locate ∨ c.code.medium = false ∨
            c.code.writeClass ≠ f.writeClass ∨ (f.writeClass = false ∧ c.reverse ≠ f.reverse))) →
      ∃ t, exec .endOfFinish s = .next t ∧ t.cu = s.cu ∧ t.cmp = s.cmp ∧ t.bu = s.bu ∧ stops s t ∧
        (t.oc = .stopping → t.fw = s.fw))

/-- R22, R46, R47, R63, R132, R133, R153, R174: the start of the head from rest. A refused grant and a failing check post their outcome
with no motion, the checks in the order of R46; a command that passes them sends its motion request, a write-class one with the gate ON
and the catalogue truncated, a forward one at the load point with the catalogue anchored. END WARNING is carried from a start that
leaves START, and by no completion posted in it (log 41: the model's reading). -/
def Obligations.StartFromRestRunsTheChecks : Prop :=
  ∀ (c : Command) (rest : List Command) (s : State), s.undisturbed = true → s.hw.resetPending = false →
    s.cu.queue = c :: rest → c.code.medium = true → s.oc = .idle → s.cmp.held = none →
    let l := (s.link c.unit).lines
    let plan := (s.catalogue c.unit).plan c.arg
    let reverse : Bool :=
      if c.code = .locate then (match plan with | .space _ rev => rev | _ => false) else c.reverse
    let noMotion : TransportLink :=
      { s.tlc with selected := none, atSpeedTimer := false, acceptanceTimer := false, stopTimer := false }
    let anchored : RecordCatalogue :=
      { s.rc with
        catalogues :=
          s.rc.catalogues.set c.unit
            { state := .anchored, entries := (s.catalogue c.unit).entries.drop (s.catalogue c.unit).position,
              position := 0 } }
    let postsAtStart (o : CmdOutcome) (atLoadPoint : Bool) (tlc : TransportLink) (fw : FrameWriter)
        (rc : RecordCatalogue) : Prop :=
      ∃ t r, exec .startFromRest s = .next t ∧ t.cu = { s.cu with queue := rest } ∧ t.oc = .idle ∧ t.tlc = tlc ∧
        t.fw = fw ∧ t.rc = rc ∧ t.cmp = s.cmp.place r ∧ r.tag = c.tag ∧ r.code = c.code ∧ r.unit = c.unit ∧
        r.outcome = o ∧ r.ordinal = none ∧ r.copies = 0 ∧ r.byteCount = 0 ∧ r.passed = 0 ∧
        r.qualifiers.atLoadPoint = atLoadPoint ∧ r.qualifiers.endWarning = false ∧
        (c.code.namesBuffer = true → (t.bu.buffer c.buffer).committed = false) ∧
        (c.code = .read → (t.bu.buffer c.buffer).fill = 0)
    let refused (o : CmdOutcome) : Prop := postsAtStart o false s.tlc s.fw s.rc
    let failed (o : CmdOutcome) : Prop := postsAtStart o false noMotion { s.fw with gate := false } s.rc
    let starts (q : MotionRequest) (p : Phase) (accept : Bool) (t : State) (a : Active) : Prop :=
      exec .startFromRest s = .next t ∧ t.cu = { s.cu with queue := rest } ∧ t.oc = .active a ∧ a.cmd = c ∧
        a.phase = p ∧ a.profile = (s.link c.unit).profile ∧ a.ordinal = none ∧ a.copyCounter = 0 ∧ a.passed = 0 ∧
        a.loadPointAtStart = l.loadPoint ∧ t.tlc.selected = some c.unit ∧ t.tlc.request = some q ∧
        t.tlc.atSpeedTimer = !accept ∧ t.tlc.acceptanceTimer = accept ∧ t.tlc.stopTimer = false ∧
        (t.link c.unit).state = .ramping ∧ t.rc.nextOrdinals = s.rc.nextOrdinals ∧ t.cmp = s.cmp
    ((s.link c.unit).state = .absent → refused .noTransport) ∧
    ((s.link c.unit).state = .notReady → refused .notReady) ∧
    ((s.link c.unit).state = .rewinding ∨ (s.link c.unit).state = .unloading → refused .unitRewinding) ∧
    ((s.link c.unit).state = .idle →
      (c.code.writeClass = true →
        (l.writePermit = false → failed .writeProtected) ∧
        (l.writePermit = true → l.endLine = true → failed .endOfMedium) ∧
        (l.writePermit = true → l.endLine = false → c.reverse = false →
          ∃ t a, starts .forwardWrite .ramp false t a ∧ t.fw = { s.fw with gate := true } ∧ t.fr.mode = .readback ∧
            a.qualifiers.endWarning = l.endMarker ∧
            (l.loadPoint = false → t.catalogue c.unit = (s.catalogue c.unit).truncate) ∧
            (l.loadPoint = true → t.catalogue c.unit = { state := .anchored, entries := [], position := 0 }))) ∧
      (c.code.readClass = true →
        (reverse = false → (c.code = .locate → plan ≠ .zero) → l.endLine = true → failed .endOfMedium) ∧
        (reverse = true → l.loadPoint = true → failed .loadPoint) ∧
        (c.code = .locate → plan = .zero → failed .done) ∧
        (reverse = false → (c.code = .locate → plan ≠ .zero) → l.endLine = false →
          ∃ t a, starts .forward .ramp false t a ∧ a.reverse = false ∧ t.fw = s.fw ∧ t.fr.mode = s.fr.mode ∧
            a.qualifiers.endWarning = l.endMarker ∧
            t.fr.account.receiving = (decide (c.code = .read) || decide (c.code = .readStream)) ∧
            (l.loadPoint = true → t.rc = anchored) ∧ (l.loadPoint = false → t.rc = s.rc)) ∧
        (reverse = true → l.loadPoint = false →
          ∃ t a, starts .reverse .ramp false t a ∧ a.reverse = true ∧ t.fw = s.fw ∧ t.rc = s.rc ∧
            a.qualifiers.endWarning = false)) ∧
      (c.code = .rewind →
        (l.loadPoint = true → postsAtStart .done true noMotion { s.fw with gate := false } anchored) ∧
        (l.loadPoint = false →
          ∃ t a, starts .rewind .acceptance true t a ∧ t.fw = s.fw ∧ t.rc = s.rc)) ∧
      (c.code = .unload →
        ∃ t a, starts .unload .acceptance true t a ∧ t.fw = s.fw ∧ t.rc = s.rc))

/-- R36, R138, R151: SET ORDINAL and LOAD PROFILE are carried out and posted DONE in one step, with the operation that runs left
alone. -/
def Obligations.NonMediumCommandsAreCarriedOut : Prop :=
  ∀ (c : Command) (rest : List Command) (s : State), s.undisturbed = true → s.hw.resetPending = false →
    s.cu.queue = c :: rest → s.active = none → s.cmp.held = none →
    let done (ordinal : Option Word) : Completion :=
      { tag := c.tag, code := c.code, unit := c.unit, outcome := .done, copies := 0, ordinal := ordinal,
        qualifiers :=
          { endWarning := false, atLoadPoint := false, corrected := false, marginal := false, skew := false,
            staleDiscarded := false, voidsSkipped := false, fragments := false, longRecord := false, abortLate := false,
            unsealed := false, dataCheck := false, overrun := false, lengthExcess := false }
        failure := none, byteCount := 0, passed := 0, corrected := 0, marginal := 0, skew := 0 }
    (c.code = .setOrdinal →
      exec .nonMediumCommandExecution s = .next
        { s with
          cu := { s.cu with queue := rest }
          rc := { s.rc with nextOrdinals := s.rc.nextOrdinals.set c.unit c.arg }
          cmp := s.cmp.place (done (some c.arg)) }) ∧
    (c.code = .loadProfile →
      exec .nonMediumCommandExecution s = .next
        { s with
          cu := { s.cu with queue := rest }
          tlc :=
            { s.tlc with
              units :=
                s.tlc.units.set c.unit
                  { s.link c.unit with
                    profile := { headDistance := c.arg.toNat, strict := c.strict, weakStart := c.weakStart } } }
          cmp := s.cmp.place (done none) })

/-! ### The Record Catalogue -/

/-- R126 to R131: what a record passed forward and in reverse does to the selected unit's catalogue and next ordinal, and that a
report for a unit not selected is disregarded (R137); R133: what a truncation makes of a catalogue. -/
def Obligations.RecordsPassedMoveTheCatalogue : Prop :=
  (∀ c : Catalogue,
    (c.state = .unknown → c.truncate = c) ∧
    (c.state = .anchored → c.truncate = { c with entries := c.entries.take c.position }) ∧
    (c.state = .floating → c.entries.take c.position ≠ [] →
      c.truncate = { c with entries := c.entries.take c.position }) ∧
    (c.state = .floating → c.entries.take c.position = [] →
      c.truncate = { state := .unknown, entries := [], position := 0 })) ∧
  ∀ (u : UnitId) (r : RecordInfo) (mark : Bool) (s : State),
    (s.tlc.selected ≠ some u → placeForward u r mark s = s ∧ placeReverse u r s = s) ∧
    (s.tlc.selected = some u →
      let c := s.catalogue u
      let f := (placeForward u r mark s).catalogue u
      let b := (placeReverse u r s).catalogue u
      (c.state = .unknown →
        f = { state := .floating, entries := [r], position := 1 } ∧
        b = { state := .floating, entries := [r], position := 0 }) ∧
      (c.state ≠ .unknown → c.position < c.entries.length →
        f = { c with entries := c.entries.set c.position r, position := c.position + 1 }) ∧
      (c.state ≠ .unknown → c.position = c.entries.length → c.entries.length < 32 →
        f = { c with entries := c.entries ++ [r], position := c.position + 1 }) ∧
      (c.state ≠ .unknown → c.position = 32 → c.entries.length = 32 →
        f = { state := .floating, entries := c.entries.drop 1 ++ [r], position := 32 }) ∧
      (c.state ≠ .unknown → 0 < c.position →
        b = { c with entries := c.entries.set (c.position - 1) r, position := c.position - 1 }) ∧
      (c.state ≠ .unknown → c.position = 0 → c.entries.length ≤ 32 →
        b = { state := .floating, entries := (r :: c.entries).take 32, position := 0 }) ∧
      (∀ i, r.ident = some i →
        (r.trailer = .commit →
          (placeForward u r mark s).nextOrdinal u = i.ordinal + 1 ∧ (placeReverse u r s).nextOrdinal u = i.ordinal) ∧
        (r.trailer = .none → mark = true → (placeForward u r mark s).nextOrdinal u = i.ordinal + 1) ∧
        (r.trailer = .none → mark = false → (placeForward u r mark s).nextOrdinal u = s.nextOrdinal u) ∧
        (r.trailer = .void → (placeForward u r mark s).nextOrdinal u = s.nextOrdinal u) ∧
        (r.trailer ≠ .commit → (placeReverse u r s).nextOrdinal u = s.nextOrdinal u)) ∧
      (r.ident = none →
        (placeForward u r mark s).nextOrdinal u = s.nextOrdinal u ∧
          (placeReverse u r s).nextOrdinal u = s.nextOrdinal u))

/-- R139, R140: a candidate is an entry of the target ordinal of the tier that decides, the entries with trailer commit when there is one
and else those with trailer none. The plan reaches the candidate nearest the position, the one ahead when two are equally near:
distance zero when it stands at the position, and else a SPACE over the records between; a search is planned exactly when there is no
candidate. -/
def Obligations.LocatePlansReachACandidate : Prop :=
  ∀ (c : Catalogue) (target : Word), c.position ≤ c.entries.length →
    let tier (k : Trailer) (i : Nat) : Prop :=
      ∃ e x, c.entries[i]? = some e ∧ e.ident = some x ∧ x.ordinal = target ∧ e.trailer = k
    let candidate (i : Nat) : Prop := tier .commit i ∨ ((∀ j, ¬tier .commit j) ∧ tier .none i)
    let distance (i : Nat) : Nat := if c.position ≤ i then i - c.position else c.position - i
    let chosen (i : Nat) : Prop :=
      candidate i ∧ ∀ j, candidate j → distance i < distance j ∨ (distance i = distance j ∧ j ≤ i)
    (c.plan target = .zero → chosen c.position) ∧
    (∀ n, c.plan target = .space n false → 0 < n ∧ chosen (c.position + n)) ∧
    (∀ n, c.plan target = .space n true → 0 < n ∧ n ≤ c.position ∧ chosen (c.position - n)) ∧
    (∀ i, chosen i →
      c.plan target =
        if i = c.position then .zero
        else if c.position < i then .space (i - c.position) false
        else .space (c.position - i) true) ∧
    (c.plan target = .search ↔ ∀ i, ¬candidate i)
end

