-- ==== Sys2Proof/Laws/Blocks.lean ====
section
/-! SUPPORT. What the operations of the Completion Unit and the Verify Unit can do, said once each. -/

namespace Sys2Proof.Machine

/-- A placed record is the newest of the ring, or held when the ring is full (R185). -/
theorem CompletionUnit.place_cases (c : CompletionUnit) (r : Completion) :
    (c.ring.length < Config.ringSize ∧ c.place r = { c with ring := c.ring ++ [r] }) ∨
    (Config.ringSize ≤ c.ring.length ∧ c.place r = { c with held := some r }) := by
  unfold CompletionUnit.place
  by_cases h : c.ring.length < Config.ringSize
  · exact .inl ⟨h, by simp [h]⟩
  · exact .inr ⟨Nat.le_of_not_lt h, by simp [h]⟩

/-- POP (R187). -/
theorem CompletionUnit.pop_cases (c : CompletionUnit) :
    (c.ring = [] ∧ c.pop = c) ∨
    (∃ r rest, c.ring = r :: rest ∧ c.pop = { ring := rest ++ c.held.toList, held := none }) := by
  unfold CompletionUnit.pop
  cases h : c.ring with
  | nil => exact .inl ⟨rfl, rfl⟩
  | cons r rest => exact .inr ⟨r, rest, rfl, rfl⟩

/-- A pushed entry never takes the window past its capacity (R102). -/
theorem VerifyUnit.push_length (v : VerifyUnit) (e : WindowEntry) (h : v.window.length ≤ Config.windowSize) :
    (v.push e).window.length ≤ Config.windowSize := by
  unfold VerifyUnit.push
  split <;> dsimp only
  · split <;> simp_all
  · by_cases h2 : e.role = .trailer ∧ e.index = 0
    · simp only [h2, and_self, if_true]; split <;> simp_all
    · simp only [h2, if_false]; split <;> simp_all

/-- After a verdict the window is empty and the unit IDLE (R111). -/
theorem VerifyUnit.verdict_idle (v : VerifyUnit) : (v.verdict).1.state = .idle ∧ (v.verdict).1.window = [] := ⟨rfl, rfl⟩

/-- The verdict is a pass exactly when the copy has no failure recorded (R108, R110). -/
theorem VerifyUnit.verdict_pass (v : VerifyUnit) : (v.verdict).2 = .copy v.copyFailure.isNone v.soft := rfl

/-- The same of the commit trailer (R112, R113). -/
theorem VerifyUnit.trailerVerdict_idle (v : VerifyUnit) :
    (v.trailerVerdict).1.state = .idle ∧ (v.trailerVerdict).1.window = [] ∧
      (v.trailerVerdict).2 = .trailer v.trailerFailure.isNone := ⟨rfl, rfl, rfl⟩

end Sys2Proof.Machine
end

