-- ==== Sys2Proof/Laws/Types.lean ====
section
/-! SUPPORT. Reading back one unit's or one buffer's value after a write. -/

namespace Sys2Proof.Machine

@[simp] theorem PerUnit.get_set_self {α : Type} (p : PerUnit α) (u : UnitId) (a : α) : (p.set u a).get u = a := by
  fin_cases u <;> rfl

theorem PerUnit.get_set_other {α : Type} (p : PerUnit α) {u v : UnitId} (a : α) (h : v ≠ u) :
    (p.set u a).get v = p.get v := by
  fin_cases u <;> fin_cases v <;> first | rfl | exact absurd rfl h

@[simp] theorem PerUnit.get_map {α β : Type} (f : α → β) (p : PerUnit α) (u : UnitId) :
    (p.map f).get u = f (p.get u) := by
  fin_cases u <;> rfl

@[simp] theorem PerUnit.set_get {α : Type} (p : PerUnit α) (u : UnitId) : p.set u (p.get u) = p := by
  fin_cases u <;> rfl

@[simp] theorem PerUnit.set_set {α : Type} (p : PerUnit α) (u : UnitId) (a b : α) : (p.set u a).set u b = p.set u b := by
  fin_cases u <;> rfl

@[simp] theorem PerBuffer.get_set_self {α : Type} (p : PerBuffer α) (b : BufferId) (a : α) : (p.set b a).get b = a := by
  fin_cases b <;> rfl

theorem PerBuffer.get_set_other {α : Type} (p : PerBuffer α) {b c : BufferId} (a : α) (h : c ≠ b) :
    (p.set b a).get c = p.get c := by
  fin_cases b <;> fin_cases c <;> first | rfl | exact absurd rfl h

@[simp] theorem PerBuffer.get_map {α β : Type} (f : α → β) (p : PerBuffer α) (b : BufferId) :
    (p.map f).get b = f (p.get b) := by
  fin_cases b <;> rfl

end Sys2Proof.Machine
end

