-- ==== Sys2Proof/Laws/Buffers.lean ====
section
/-! SUPPORT. The laws of a record buffer's contents: read after write, and the canonical form kept by every write. -/

namespace Sys2Proof.Machine

/-- Every index of a well-formed tail lies above its bound. -/
theorem BufferMemory.read_below_bound (m : BufferMemory) (b a : Nat) (h : BufferMemory.wfAbove (some b) m = true) (ha : a ≤ b) :
    BufferMemory.read m a = 0 := by
  induction m generalizing b with
  | nil => rfl
  | cons c rest ih =>
    obtain ⟨k, v⟩ := c
    simp only [BufferMemory.wfAbove, aboveBound, Bool.and_eq_true, decide_eq_true_eq] at h
    have hk : k ≠ a := by omega
    simp only [BufferMemory.read, if_neg hk]
    exact ih k h.2 (by omega)

/-- A looser bound. -/
theorem BufferMemory.wfAbove_mono (m : BufferMemory) (b c : Nat) (h : BufferMemory.wfAbove (some b) m = true) (hc : c ≤ b) :
    BufferMemory.wfAbove (some c) m = true := by
  cases m with
  | nil => rfl
  | cons e rest =>
    obtain ⟨k, v⟩ := e
    simp only [BufferMemory.wfAbove, aboveBound, Bool.and_eq_true, decide_eq_true_eq] at h ⊢
    exact ⟨⟨by omega, h.1.2⟩, h.2⟩

/-- No bound at all. -/
theorem BufferMemory.wf_of_wfAbove (m : BufferMemory) (b : Nat) (h : BufferMemory.wfAbove (some b) m = true) :
    BufferMemory.wfAbove none m = true := by
  cases m with
  | nil => rfl
  | cons e rest =>
    obtain ⟨k, v⟩ := e
    simp only [BufferMemory.wfAbove, aboveBound, Bool.and_eq_true, decide_eq_true_eq] at h ⊢
    exact ⟨⟨trivial, h.1.2⟩, h.2⟩

/-- A byte reads back as it was stored. -/
theorem BufferMemory.read_write_self (m : BufferMemory) (low : Option Nat) (a : Nat) (v : Byte)
    (h : BufferMemory.wfAbove low m = true) : (BufferMemory.write m a v).read a = v := by
  induction m generalizing low with
  | nil => by_cases hv : v = 0#8 <;> simp [BufferMemory.write, BufferMemory.read, hv]
  | cons c rest ih =>
    obtain ⟨k, w⟩ := c
    simp only [BufferMemory.wfAbove, Bool.and_eq_true, decide_eq_true_eq] at h
    by_cases hlt : a < k
    · by_cases hv : v = 0#8
      · have hr : BufferMemory.read rest a = 0 := BufferMemory.read_below_bound rest k a h.2 (by omega)
        have hk : k ≠ a := by omega
        simp [BufferMemory.write, hlt, hv, BufferMemory.read, hk, hr]
      · simp [BufferMemory.write, hlt, hv, BufferMemory.read]
    · by_cases heq : a = k
      · subst heq
        by_cases hv : v = 0#8
        · have hr : BufferMemory.read rest a = 0 := BufferMemory.read_below_bound rest a a h.2 (by omega)
          simp [BufferMemory.write, hv, hr]
        · simp [BufferMemory.write, hv, BufferMemory.read]
      · have hk : k ≠ a := fun e => heq e.symm
        simp only [BufferMemory.write, if_neg hlt, if_neg heq, BufferMemory.read, if_neg hk]
        exact ih (some k) h.2

/-- A store leaves every other index as it read. -/
theorem BufferMemory.read_write_other (m : BufferMemory) (low : Option Nat) (a b : Nat) (v : Byte)
    (h : BufferMemory.wfAbove low m = true) (hab : b ≠ a) : (BufferMemory.write m a v).read b = BufferMemory.read m b := by
  induction m generalizing low with
  | nil =>
    by_cases hv : v = 0#8 <;> simp [BufferMemory.write, BufferMemory.read, hv, Ne.symm hab]
  | cons c rest ih =>
    obtain ⟨k, w⟩ := c
    simp only [BufferMemory.wfAbove, Bool.and_eq_true, decide_eq_true_eq] at h
    by_cases hlt : a < k
    · by_cases hv : v = 0#8
      · simp [BufferMemory.write, hlt, hv]
      · simp [BufferMemory.write, hlt, hv, BufferMemory.read, Ne.symm hab]
    · by_cases heq : a = k
      · subst heq
        by_cases hv : v = 0#8
        · simp [BufferMemory.write, hv, BufferMemory.read, Ne.symm hab]
        · simp [BufferMemory.write, hv, BufferMemory.read, Ne.symm hab]
      · simp only [BufferMemory.write, if_neg hlt, if_neg heq, BufferMemory.read]
        rw [ih (some k) h.2]

/-- A store above the bound keeps the form. -/
theorem BufferMemory.write_wfAbove (m : BufferMemory) (low : Option Nat) (a : Nat) (v : Byte)
    (h : BufferMemory.wfAbove low m = true) (hb : aboveBound low a = true) :
    BufferMemory.wfAbove low (BufferMemory.write m a v) = true := by
  induction m generalizing low with
  | nil => by_cases hv : v = 0#8 <;> simp [BufferMemory.write, BufferMemory.wfAbove, hv, hb]
  | cons c rest ih =>
    obtain ⟨k, w⟩ := c
    have h0 := h
    simp only [BufferMemory.wfAbove, Bool.and_eq_true, decide_eq_true_eq] at h
    by_cases hlt : a < k
    · by_cases hv : v = 0#8
      · simpa [BufferMemory.write, hlt, hv] using h0
      · simp only [BufferMemory.write, if_pos hlt, if_neg hv, BufferMemory.wfAbove, Bool.and_eq_true, decide_eq_true_eq]
        exact ⟨⟨hb, hv⟩, ⟨by simpa [aboveBound] using hlt, h.1.2⟩, h.2⟩
    · by_cases heq : a = k
      · subst heq
        by_cases hv : v = 0#8
        · simp only [BufferMemory.write, if_neg hlt, hv, if_true]
          cases low with
          | none => exact BufferMemory.wf_of_wfAbove rest a h.2
          | some b =>
            have hb' : b < a := by simpa [aboveBound] using hb
            exact BufferMemory.wfAbove_mono rest a b h.2 (Nat.le_of_lt hb')
        · simp only [BufferMemory.write, if_neg hlt, if_neg hv, if_true, BufferMemory.wfAbove, Bool.and_eq_true,
            decide_eq_true_eq]
          exact ⟨⟨h.1.1, hv⟩, h.2⟩
      · simp only [BufferMemory.write, if_neg hlt, if_neg heq, BufferMemory.wfAbove, Bool.and_eq_true, decide_eq_true_eq]
        exact ⟨h.1, ih (some k) h.2 (by simp only [aboveBound, decide_eq_true_eq]; omega)⟩

/-- Every write keeps the canonical form. -/
theorem BufferMemory.write_wf (m : BufferMemory) (a : Nat) (v : Byte) (h : m.wf = true) : (m.write a v).wf = true :=
  BufferMemory.write_wfAbove m none a v h rfl

/-- A write adds at most the index it names. -/
theorem BufferMemory.write_keys (m : BufferMemory) (a : Nat) (v : Byte) :
    ∀ c ∈ BufferMemory.write m a v, c ∈ m ∨ c.1 = a := by
  induction m with
  | nil => by_cases hv : v = 0#8 <;> simp [BufferMemory.write, hv]
  | cons e rest ih =>
    obtain ⟨k, w⟩ := e
    intro c hc
    by_cases hlt : a < k
    · by_cases hv : v = 0#8
      · left; simpa [BufferMemory.write, hlt, hv] using hc
      · simp only [BufferMemory.write, if_pos hlt, if_neg hv, List.mem_cons] at hc
        rcases hc with rfl | hc
        · right; rfl
        · left; simpa using hc
    · by_cases heq : a = k
      · by_cases hv : v = 0#8
        · left
          simp only [BufferMemory.write, if_neg hlt, if_pos heq, if_pos hv] at hc
          exact List.mem_cons_of_mem _ hc
        · simp only [BufferMemory.write, if_neg hlt, if_pos heq, if_neg hv, List.mem_cons] at hc
          rcases hc with rfl | hc
          · right; rfl
          · left; exact List.mem_cons_of_mem _ hc
      · simp only [BufferMemory.write, if_neg hlt, if_neg heq, List.mem_cons] at hc
        rcases hc with rfl | hc
        · left; exact List.mem_cons_self
        · rcases ih c hc with h | h
          · left; exact List.mem_cons_of_mem _ h
          · right; exact h

/-- The pointer never passes 4096 (R172, R173). -/
theorem nextPointer_le (p : Nat) : nextPointer p ≤ Config.recordBytes := Nat.min_le_right _ _

/-- A word stored through the port keeps the canonical form. -/
theorem RecordBuffer.storeWord_wf (r : RecordBuffer) (w : Word) (h : r.contents.wf = true) :
    (r.storeWord w).contents.wf = true := by
  unfold RecordBuffer.storeWord
  by_cases hp : r.pointer + 1 < Config.recordBytes
  · simp only [hp, if_true]; exact BufferMemory.write_wf _ _ _ (BufferMemory.write_wf _ _ _ h)
  · simp only [hp, if_false]; exact BufferMemory.write_wf _ _ _ h

/-- A byte of a received record keeps the canonical form. -/
theorem RecordBuffer.storeRecordByte_wf (r : RecordBuffer) (v : Byte) (h : r.contents.wf = true) :
    (r.storeRecordByte v).contents.wf = true := by
  unfold RecordBuffer.storeRecordByte
  by_cases hf : r.fill < Config.recordBytes
  · simp only [hf, if_true]; exact BufferMemory.write_wf _ _ _ h
  · simp only [hf, if_false]; exact h

/-- What one received byte does to a buffer: below 4096 it lies at the fill, which rises by one; a full buffer is unchanged (R169,
R174). -/
theorem RecordBuffer.storeRecordByte_cases (r : RecordBuffer) (v : Byte) :
    (r.fill < Config.recordBytes ∧
      r.storeRecordByte v = { r with contents := r.contents.write r.fill v, fill := r.fill + 1 }) ∨
    (Config.recordBytes ≤ r.fill ∧ r.storeRecordByte v = r) := by
  unfold RecordBuffer.storeRecordByte
  by_cases h : r.fill < Config.recordBytes
  · exact .inl ⟨h, by simp [h]⟩
  · exact .inr ⟨Nat.le_of_not_lt h, by simp [h]⟩

end Sys2Proof.Machine
end

