-- ==== Sys2Proof/Laws/Catalogue.lean ====
section
/-! SUPPORT. Each catalogue operation keeps a sound catalogue sound (R123), and what each leaves of the position. -/

namespace Sys2Proof.Machine

theorem Catalogue.unknown_ok : Catalogue.unknown.ok := by decide

theorem Catalogue.anchoredEmpty_ok : Catalogue.anchoredEmpty.ok := by decide

/-- A forward pass (R126, R127). -/
theorem Catalogue.passForward_ok (c : Catalogue) (r : RecordInfo) (h : c.ok) : (c.passForward r).ok := by
  obtain ⟨hl, hp, hu, hf⟩ := h
  simp only [Config.catalogueSize] at hl
  obtain ⟨st, es, pos⟩ := c
  cases st <;> simp only [Catalogue.passForward, Catalogue.ok, Config.catalogueSize] at *
  · simp
  all_goals
    by_cases h1 : pos < es.length
    · have : es ≠ [] := by rintro rfl; simp at h1
      simp [h1, hl, this]
      try omega
    · by_cases h2 : es.length < 32
      · simp [h1, h2]; try omega
      · simp [h1, h2]; try omega

/-- A reverse pass (R129, R130). -/
theorem Catalogue.passReverse_ok (c : Catalogue) (r : RecordInfo) (h : c.ok) : (c.passReverse r).ok := by
  obtain ⟨hl, hp, hu, hf⟩ := h
  simp only [Config.catalogueSize] at hl
  obtain ⟨st, es, pos⟩ := c
  cases st <;> simp only [Catalogue.passReverse, Catalogue.ok, Config.catalogueSize] at *
  · simp
  all_goals
    by_cases h1 : 0 < pos
    · have : es ≠ [] := by rintro rfl; simp at hp; omega
      simp [h1, hl, this]
      try omega
    · simp [h1]

/-- The load point (R132). -/
theorem Catalogue.atLoadPoint_ok (c : Catalogue) (h : c.ok) : c.atLoadPoint.ok := by
  obtain ⟨hl, hp, hu, hf⟩ := h
  simp [Catalogue.atLoadPoint, Catalogue.ok] at *; omega

/-- The truncation (R133). -/
theorem Catalogue.truncate_ok (c : Catalogue) (h : c.ok) : c.truncate.ok := by
  obtain ⟨hl, hp, hu, hf⟩ := h
  obtain ⟨st, es, pos⟩ := c
  cases st <;> simp only [Catalogue.truncate, Catalogue.ok] at *
  · exact ⟨hl, hp, hu, hf⟩
  · by_cases h1 : (es.take pos).isEmpty = true
    · rw [if_pos h1]; decide
    · rw [if_neg h1]
      refine ⟨?_, ?_, by simp, ?_⟩
      · simp only [List.length_take]; omega
      · simp only [List.length_take]; omega
      · intro _ he; exact h1 (List.isEmpty_iff.mpr he)
  · refine ⟨?_, ?_, by simp, by simp⟩
    · simp only [List.length_take]; omega
    · simp only [List.length_take]; omega

end Sys2Proof.Machine
end

