-- ==== Sys2Proof/Laws/State.lean ====
section
/-! SUPPORT. What each update of one block leaves in every block: one lemma for each field of `State` and each update. -/

namespace Sys2Proof.Machine

variable (s : State)

@[simp] theorem State.setHw_hw (x : HostWindow) : (s.setHw x).hw = x := rfl
@[simp] theorem State.setHw_cu (x : HostWindow) : (s.setHw x).cu = s.cu := rfl
@[simp] theorem State.setHw_oc (x : HostWindow) : (s.setHw x).oc = s.oc := rfl
@[simp] theorem State.setHw_timer (x : HostWindow) : (s.setHw x).timer = s.timer := rfl
@[simp] theorem State.setHw_tlc (x : HostWindow) : (s.setHw x).tlc = s.tlc := rfl
@[simp] theorem State.setHw_fw (x : HostWindow) : (s.setHw x).fw = s.fw := rfl
@[simp] theorem State.setHw_fr (x : HostWindow) : (s.setHw x).fr = s.fr := rfl
@[simp] theorem State.setHw_vu (x : HostWindow) : (s.setHw x).vu = s.vu := rfl
@[simp] theorem State.setHw_rc (x : HostWindow) : (s.setHw x).rc = s.rc := rfl
@[simp] theorem State.setHw_bu (x : HostWindow) : (s.setHw x).bu = s.bu := rfl
@[simp] theorem State.setHw_cmp (x : HostWindow) : (s.setHw x).cmp = s.cmp := rfl
@[simp] theorem State.setHw_pending (x : HostWindow) : (s.setHw x).pending = s.pending := rfl

@[simp] theorem State.setCu_hw (x : CommandUnit) : (s.setCu x).hw = s.hw := rfl
@[simp] theorem State.setCu_cu (x : CommandUnit) : (s.setCu x).cu = x := rfl
@[simp] theorem State.setCu_oc (x : CommandUnit) : (s.setCu x).oc = s.oc := rfl
@[simp] theorem State.setCu_timer (x : CommandUnit) : (s.setCu x).timer = s.timer := rfl
@[simp] theorem State.setCu_tlc (x : CommandUnit) : (s.setCu x).tlc = s.tlc := rfl
@[simp] theorem State.setCu_fw (x : CommandUnit) : (s.setCu x).fw = s.fw := rfl
@[simp] theorem State.setCu_fr (x : CommandUnit) : (s.setCu x).fr = s.fr := rfl
@[simp] theorem State.setCu_vu (x : CommandUnit) : (s.setCu x).vu = s.vu := rfl
@[simp] theorem State.setCu_rc (x : CommandUnit) : (s.setCu x).rc = s.rc := rfl
@[simp] theorem State.setCu_bu (x : CommandUnit) : (s.setCu x).bu = s.bu := rfl
@[simp] theorem State.setCu_cmp (x : CommandUnit) : (s.setCu x).cmp = s.cmp := rfl
@[simp] theorem State.setCu_pending (x : CommandUnit) : (s.setCu x).pending = s.pending := rfl

@[simp] theorem State.setOc_hw (x : Operation) : (s.setOc x).hw = s.hw := rfl
@[simp] theorem State.setOc_cu (x : Operation) : (s.setOc x).cu = s.cu := rfl
@[simp] theorem State.setOc_oc (x : Operation) : (s.setOc x).oc = x := rfl
@[simp] theorem State.setOc_timer (x : Operation) : (s.setOc x).timer = s.timer := rfl
@[simp] theorem State.setOc_tlc (x : Operation) : (s.setOc x).tlc = s.tlc := rfl
@[simp] theorem State.setOc_fw (x : Operation) : (s.setOc x).fw = s.fw := rfl
@[simp] theorem State.setOc_fr (x : Operation) : (s.setOc x).fr = s.fr := rfl
@[simp] theorem State.setOc_vu (x : Operation) : (s.setOc x).vu = s.vu := rfl
@[simp] theorem State.setOc_rc (x : Operation) : (s.setOc x).rc = s.rc := rfl
@[simp] theorem State.setOc_bu (x : Operation) : (s.setOc x).bu = s.bu := rfl
@[simp] theorem State.setOc_cmp (x : Operation) : (s.setOc x).cmp = s.cmp := rfl
@[simp] theorem State.setOc_pending (x : Operation) : (s.setOc x).pending = s.pending := rfl

@[simp] theorem State.setTimer_hw (x : PhaseTimer) : (s.setTimer x).hw = s.hw := rfl
@[simp] theorem State.setTimer_cu (x : PhaseTimer) : (s.setTimer x).cu = s.cu := rfl
@[simp] theorem State.setTimer_oc (x : PhaseTimer) : (s.setTimer x).oc = s.oc := rfl
@[simp] theorem State.setTimer_timer (x : PhaseTimer) : (s.setTimer x).timer = x := rfl
@[simp] theorem State.setTimer_tlc (x : PhaseTimer) : (s.setTimer x).tlc = s.tlc := rfl
@[simp] theorem State.setTimer_fw (x : PhaseTimer) : (s.setTimer x).fw = s.fw := rfl
@[simp] theorem State.setTimer_fr (x : PhaseTimer) : (s.setTimer x).fr = s.fr := rfl
@[simp] theorem State.setTimer_vu (x : PhaseTimer) : (s.setTimer x).vu = s.vu := rfl
@[simp] theorem State.setTimer_rc (x : PhaseTimer) : (s.setTimer x).rc = s.rc := rfl
@[simp] theorem State.setTimer_bu (x : PhaseTimer) : (s.setTimer x).bu = s.bu := rfl
@[simp] theorem State.setTimer_cmp (x : PhaseTimer) : (s.setTimer x).cmp = s.cmp := rfl
@[simp] theorem State.setTimer_pending (x : PhaseTimer) : (s.setTimer x).pending = s.pending := rfl

@[simp] theorem State.setTlc_hw (x : TransportLink) : (s.setTlc x).hw = s.hw := rfl
@[simp] theorem State.setTlc_cu (x : TransportLink) : (s.setTlc x).cu = s.cu := rfl
@[simp] theorem State.setTlc_oc (x : TransportLink) : (s.setTlc x).oc = s.oc := rfl
@[simp] theorem State.setTlc_timer (x : TransportLink) : (s.setTlc x).timer = s.timer := rfl
@[simp] theorem State.setTlc_tlc (x : TransportLink) : (s.setTlc x).tlc = x := rfl
@[simp] theorem State.setTlc_fw (x : TransportLink) : (s.setTlc x).fw = s.fw := rfl
@[simp] theorem State.setTlc_fr (x : TransportLink) : (s.setTlc x).fr = s.fr := rfl
@[simp] theorem State.setTlc_vu (x : TransportLink) : (s.setTlc x).vu = s.vu := rfl
@[simp] theorem State.setTlc_rc (x : TransportLink) : (s.setTlc x).rc = s.rc := rfl
@[simp] theorem State.setTlc_bu (x : TransportLink) : (s.setTlc x).bu = s.bu := rfl
@[simp] theorem State.setTlc_cmp (x : TransportLink) : (s.setTlc x).cmp = s.cmp := rfl
@[simp] theorem State.setTlc_pending (x : TransportLink) : (s.setTlc x).pending = s.pending := rfl

@[simp] theorem State.setFw_hw (x : FrameWriter) : (s.setFw x).hw = s.hw := rfl
@[simp] theorem State.setFw_cu (x : FrameWriter) : (s.setFw x).cu = s.cu := rfl
@[simp] theorem State.setFw_oc (x : FrameWriter) : (s.setFw x).oc = s.oc := rfl
@[simp] theorem State.setFw_timer (x : FrameWriter) : (s.setFw x).timer = s.timer := rfl
@[simp] theorem State.setFw_tlc (x : FrameWriter) : (s.setFw x).tlc = s.tlc := rfl
@[simp] theorem State.setFw_fw (x : FrameWriter) : (s.setFw x).fw = x := rfl
@[simp] theorem State.setFw_fr (x : FrameWriter) : (s.setFw x).fr = s.fr := rfl
@[simp] theorem State.setFw_vu (x : FrameWriter) : (s.setFw x).vu = s.vu := rfl
@[simp] theorem State.setFw_rc (x : FrameWriter) : (s.setFw x).rc = s.rc := rfl
@[simp] theorem State.setFw_bu (x : FrameWriter) : (s.setFw x).bu = s.bu := rfl
@[simp] theorem State.setFw_cmp (x : FrameWriter) : (s.setFw x).cmp = s.cmp := rfl
@[simp] theorem State.setFw_pending (x : FrameWriter) : (s.setFw x).pending = s.pending := rfl

@[simp] theorem State.setFr_hw (x : FrameReader) : (s.setFr x).hw = s.hw := rfl
@[simp] theorem State.setFr_cu (x : FrameReader) : (s.setFr x).cu = s.cu := rfl
@[simp] theorem State.setFr_oc (x : FrameReader) : (s.setFr x).oc = s.oc := rfl
@[simp] theorem State.setFr_timer (x : FrameReader) : (s.setFr x).timer = s.timer := rfl
@[simp] theorem State.setFr_tlc (x : FrameReader) : (s.setFr x).tlc = s.tlc := rfl
@[simp] theorem State.setFr_fw (x : FrameReader) : (s.setFr x).fw = s.fw := rfl
@[simp] theorem State.setFr_fr (x : FrameReader) : (s.setFr x).fr = x := rfl
@[simp] theorem State.setFr_vu (x : FrameReader) : (s.setFr x).vu = s.vu := rfl
@[simp] theorem State.setFr_rc (x : FrameReader) : (s.setFr x).rc = s.rc := rfl
@[simp] theorem State.setFr_bu (x : FrameReader) : (s.setFr x).bu = s.bu := rfl
@[simp] theorem State.setFr_cmp (x : FrameReader) : (s.setFr x).cmp = s.cmp := rfl
@[simp] theorem State.setFr_pending (x : FrameReader) : (s.setFr x).pending = s.pending := rfl

@[simp] theorem State.setVu_hw (x : VerifyUnit) : (s.setVu x).hw = s.hw := rfl
@[simp] theorem State.setVu_cu (x : VerifyUnit) : (s.setVu x).cu = s.cu := rfl
@[simp] theorem State.setVu_oc (x : VerifyUnit) : (s.setVu x).oc = s.oc := rfl
@[simp] theorem State.setVu_timer (x : VerifyUnit) : (s.setVu x).timer = s.timer := rfl
@[simp] theorem State.setVu_tlc (x : VerifyUnit) : (s.setVu x).tlc = s.tlc := rfl
@[simp] theorem State.setVu_fw (x : VerifyUnit) : (s.setVu x).fw = s.fw := rfl
@[simp] theorem State.setVu_fr (x : VerifyUnit) : (s.setVu x).fr = s.fr := rfl
@[simp] theorem State.setVu_vu (x : VerifyUnit) : (s.setVu x).vu = x := rfl
@[simp] theorem State.setVu_rc (x : VerifyUnit) : (s.setVu x).rc = s.rc := rfl
@[simp] theorem State.setVu_bu (x : VerifyUnit) : (s.setVu x).bu = s.bu := rfl
@[simp] theorem State.setVu_cmp (x : VerifyUnit) : (s.setVu x).cmp = s.cmp := rfl
@[simp] theorem State.setVu_pending (x : VerifyUnit) : (s.setVu x).pending = s.pending := rfl

@[simp] theorem State.setRc_hw (x : RecordCatalogue) : (s.setRc x).hw = s.hw := rfl
@[simp] theorem State.setRc_cu (x : RecordCatalogue) : (s.setRc x).cu = s.cu := rfl
@[simp] theorem State.setRc_oc (x : RecordCatalogue) : (s.setRc x).oc = s.oc := rfl
@[simp] theorem State.setRc_timer (x : RecordCatalogue) : (s.setRc x).timer = s.timer := rfl
@[simp] theorem State.setRc_tlc (x : RecordCatalogue) : (s.setRc x).tlc = s.tlc := rfl
@[simp] theorem State.setRc_fw (x : RecordCatalogue) : (s.setRc x).fw = s.fw := rfl
@[simp] theorem State.setRc_fr (x : RecordCatalogue) : (s.setRc x).fr = s.fr := rfl
@[simp] theorem State.setRc_vu (x : RecordCatalogue) : (s.setRc x).vu = s.vu := rfl
@[simp] theorem State.setRc_rc (x : RecordCatalogue) : (s.setRc x).rc = x := rfl
@[simp] theorem State.setRc_bu (x : RecordCatalogue) : (s.setRc x).bu = s.bu := rfl
@[simp] theorem State.setRc_cmp (x : RecordCatalogue) : (s.setRc x).cmp = s.cmp := rfl
@[simp] theorem State.setRc_pending (x : RecordCatalogue) : (s.setRc x).pending = s.pending := rfl

@[simp] theorem State.setBu_hw (x : BufferUnit) : (s.setBu x).hw = s.hw := rfl
@[simp] theorem State.setBu_cu (x : BufferUnit) : (s.setBu x).cu = s.cu := rfl
@[simp] theorem State.setBu_oc (x : BufferUnit) : (s.setBu x).oc = s.oc := rfl
@[simp] theorem State.setBu_timer (x : BufferUnit) : (s.setBu x).timer = s.timer := rfl
@[simp] theorem State.setBu_tlc (x : BufferUnit) : (s.setBu x).tlc = s.tlc := rfl
@[simp] theorem State.setBu_fw (x : BufferUnit) : (s.setBu x).fw = s.fw := rfl
@[simp] theorem State.setBu_fr (x : BufferUnit) : (s.setBu x).fr = s.fr := rfl
@[simp] theorem State.setBu_vu (x : BufferUnit) : (s.setBu x).vu = s.vu := rfl
@[simp] theorem State.setBu_rc (x : BufferUnit) : (s.setBu x).rc = s.rc := rfl
@[simp] theorem State.setBu_bu (x : BufferUnit) : (s.setBu x).bu = x := rfl
@[simp] theorem State.setBu_cmp (x : BufferUnit) : (s.setBu x).cmp = s.cmp := rfl
@[simp] theorem State.setBu_pending (x : BufferUnit) : (s.setBu x).pending = s.pending := rfl

@[simp] theorem State.setCmp_hw (x : CompletionUnit) : (s.setCmp x).hw = s.hw := rfl
@[simp] theorem State.setCmp_cu (x : CompletionUnit) : (s.setCmp x).cu = s.cu := rfl
@[simp] theorem State.setCmp_oc (x : CompletionUnit) : (s.setCmp x).oc = s.oc := rfl
@[simp] theorem State.setCmp_timer (x : CompletionUnit) : (s.setCmp x).timer = s.timer := rfl
@[simp] theorem State.setCmp_tlc (x : CompletionUnit) : (s.setCmp x).tlc = s.tlc := rfl
@[simp] theorem State.setCmp_fw (x : CompletionUnit) : (s.setCmp x).fw = s.fw := rfl
@[simp] theorem State.setCmp_fr (x : CompletionUnit) : (s.setCmp x).fr = s.fr := rfl
@[simp] theorem State.setCmp_vu (x : CompletionUnit) : (s.setCmp x).vu = s.vu := rfl
@[simp] theorem State.setCmp_rc (x : CompletionUnit) : (s.setCmp x).rc = s.rc := rfl
@[simp] theorem State.setCmp_bu (x : CompletionUnit) : (s.setCmp x).bu = s.bu := rfl
@[simp] theorem State.setCmp_cmp (x : CompletionUnit) : (s.setCmp x).cmp = x := rfl
@[simp] theorem State.setCmp_pending (x : CompletionUnit) : (s.setCmp x).pending = s.pending := rfl

@[simp] theorem State.setPending_hw (x : List Instr) : (s.setPending x).hw = s.hw := rfl
@[simp] theorem State.setPending_cu (x : List Instr) : (s.setPending x).cu = s.cu := rfl
@[simp] theorem State.setPending_oc (x : List Instr) : (s.setPending x).oc = s.oc := rfl
@[simp] theorem State.setPending_timer (x : List Instr) : (s.setPending x).timer = s.timer := rfl
@[simp] theorem State.setPending_tlc (x : List Instr) : (s.setPending x).tlc = s.tlc := rfl
@[simp] theorem State.setPending_fw (x : List Instr) : (s.setPending x).fw = s.fw := rfl
@[simp] theorem State.setPending_fr (x : List Instr) : (s.setPending x).fr = s.fr := rfl
@[simp] theorem State.setPending_vu (x : List Instr) : (s.setPending x).vu = s.vu := rfl
@[simp] theorem State.setPending_rc (x : List Instr) : (s.setPending x).rc = s.rc := rfl
@[simp] theorem State.setPending_bu (x : List Instr) : (s.setPending x).bu = s.bu := rfl
@[simp] theorem State.setPending_cmp (x : List Instr) : (s.setPending x).cmp = s.cmp := rfl
@[simp] theorem State.setPending_pending (x : List Instr) : (s.setPending x).pending = x := rfl

end Sys2Proof.Machine
end

