-- ==== Sys2Proof/Laws/Ops.lean ====
section
/-! SUPPORT. What the operations over the whole state can do: the blocks each leaves alone, and the cases of those that choose. -/

namespace Sys2Proof.Machine

variable (s : State)

/-! ### Small updates: the blocks they leave alone -/

@[simp] theorem State.setLink_hw (u : UnitId) (l : UnitLink) : (s.setLink u l).hw = s.hw := rfl
@[simp] theorem State.setLink_cu (u : UnitId) (l : UnitLink) : (s.setLink u l).cu = s.cu := rfl
@[simp] theorem State.setLink_oc (u : UnitId) (l : UnitLink) : (s.setLink u l).oc = s.oc := rfl
@[simp] theorem State.setLink_timer (u : UnitId) (l : UnitLink) : (s.setLink u l).timer = s.timer := rfl
@[simp] theorem State.setLink_fw (u : UnitId) (l : UnitLink) : (s.setLink u l).fw = s.fw := rfl
@[simp] theorem State.setLink_fr (u : UnitId) (l : UnitLink) : (s.setLink u l).fr = s.fr := rfl
@[simp] theorem State.setLink_vu (u : UnitId) (l : UnitLink) : (s.setLink u l).vu = s.vu := rfl
@[simp] theorem State.setLink_rc (u : UnitId) (l : UnitLink) : (s.setLink u l).rc = s.rc := rfl
@[simp] theorem State.setLink_bu (u : UnitId) (l : UnitLink) : (s.setLink u l).bu = s.bu := rfl
@[simp] theorem State.setLink_cmp (u : UnitId) (l : UnitLink) : (s.setLink u l).cmp = s.cmp := rfl
@[simp] theorem State.setLink_pending (u : UnitId) (l : UnitLink) : (s.setLink u l).pending = s.pending := rfl

@[simp] theorem State.setUnitState_hw (u : UnitId) (x : UnitState) : (s.setUnitState u x).hw = s.hw := rfl
@[simp] theorem State.setUnitState_cu (u : UnitId) (x : UnitState) : (s.setUnitState u x).cu = s.cu := rfl
@[simp] theorem State.setUnitState_oc (u : UnitId) (x : UnitState) : (s.setUnitState u x).oc = s.oc := rfl
@[simp] theorem State.setUnitState_timer (u : UnitId) (x : UnitState) : (s.setUnitState u x).timer = s.timer := rfl
@[simp] theorem State.setUnitState_fw (u : UnitId) (x : UnitState) : (s.setUnitState u x).fw = s.fw := rfl
@[simp] theorem State.setUnitState_fr (u : UnitId) (x : UnitState) : (s.setUnitState u x).fr = s.fr := rfl
@[simp] theorem State.setUnitState_vu (u : UnitId) (x : UnitState) : (s.setUnitState u x).vu = s.vu := rfl
@[simp] theorem State.setUnitState_rc (u : UnitId) (x : UnitState) : (s.setUnitState u x).rc = s.rc := rfl
@[simp] theorem State.setUnitState_bu (u : UnitId) (x : UnitState) : (s.setUnitState u x).bu = s.bu := rfl
@[simp] theorem State.setUnitState_cmp (u : UnitId) (x : UnitState) : (s.setUnitState u x).cmp = s.cmp := rfl
@[simp] theorem State.setUnitState_pending (u : UnitId) (x : UnitState) : (s.setUnitState u x).pending = s.pending := rfl

@[simp] theorem State.setLine_hw (u : UnitId) (k : Line) (b : Bool) : (s.setLine u k b).hw = s.hw := rfl
@[simp] theorem State.setLine_cu (u : UnitId) (k : Line) (b : Bool) : (s.setLine u k b).cu = s.cu := rfl
@[simp] theorem State.setLine_oc (u : UnitId) (k : Line) (b : Bool) : (s.setLine u k b).oc = s.oc := rfl
@[simp] theorem State.setLine_timer (u : UnitId) (k : Line) (b : Bool) : (s.setLine u k b).timer = s.timer := rfl
@[simp] theorem State.setLine_fw (u : UnitId) (k : Line) (b : Bool) : (s.setLine u k b).fw = s.fw := rfl
@[simp] theorem State.setLine_fr (u : UnitId) (k : Line) (b : Bool) : (s.setLine u k b).fr = s.fr := rfl
@[simp] theorem State.setLine_vu (u : UnitId) (k : Line) (b : Bool) : (s.setLine u k b).vu = s.vu := rfl
@[simp] theorem State.setLine_rc (u : UnitId) (k : Line) (b : Bool) : (s.setLine u k b).rc = s.rc := rfl
@[simp] theorem State.setLine_bu (u : UnitId) (k : Line) (b : Bool) : (s.setLine u k b).bu = s.bu := rfl
@[simp] theorem State.setLine_cmp (u : UnitId) (k : Line) (b : Bool) : (s.setLine u k b).cmp = s.cmp := rfl
@[simp] theorem State.setLine_pending (u : UnitId) (k : Line) (b : Bool) : (s.setLine u k b).pending = s.pending := rfl

@[simp] theorem State.setCatalogue_hw (u : UnitId) (c : Catalogue) : (s.setCatalogue u c).hw = s.hw := rfl
@[simp] theorem State.setCatalogue_cu (u : UnitId) (c : Catalogue) : (s.setCatalogue u c).cu = s.cu := rfl
@[simp] theorem State.setCatalogue_oc (u : UnitId) (c : Catalogue) : (s.setCatalogue u c).oc = s.oc := rfl
@[simp] theorem State.setCatalogue_timer (u : UnitId) (c : Catalogue) : (s.setCatalogue u c).timer = s.timer := rfl
@[simp] theorem State.setCatalogue_tlc (u : UnitId) (c : Catalogue) : (s.setCatalogue u c).tlc = s.tlc := rfl
@[simp] theorem State.setCatalogue_fw (u : UnitId) (c : Catalogue) : (s.setCatalogue u c).fw = s.fw := rfl
@[simp] theorem State.setCatalogue_fr (u : UnitId) (c : Catalogue) : (s.setCatalogue u c).fr = s.fr := rfl
@[simp] theorem State.setCatalogue_vu (u : UnitId) (c : Catalogue) : (s.setCatalogue u c).vu = s.vu := rfl
@[simp] theorem State.setCatalogue_bu (u : UnitId) (c : Catalogue) : (s.setCatalogue u c).bu = s.bu := rfl
@[simp] theorem State.setCatalogue_cmp (u : UnitId) (c : Catalogue) : (s.setCatalogue u c).cmp = s.cmp := rfl
@[simp] theorem State.setCatalogue_pending (u : UnitId) (c : Catalogue) : (s.setCatalogue u c).pending = s.pending := rfl

@[simp] theorem State.setNextOrdinal_hw (u : UnitId) (w : Word) : (s.setNextOrdinal u w).hw = s.hw := rfl
@[simp] theorem State.setNextOrdinal_cu (u : UnitId) (w : Word) : (s.setNextOrdinal u w).cu = s.cu := rfl
@[simp] theorem State.setNextOrdinal_oc (u : UnitId) (w : Word) : (s.setNextOrdinal u w).oc = s.oc := rfl
@[simp] theorem State.setNextOrdinal_timer (u : UnitId) (w : Word) : (s.setNextOrdinal u w).timer = s.timer := rfl
@[simp] theorem State.setNextOrdinal_tlc (u : UnitId) (w : Word) : (s.setNextOrdinal u w).tlc = s.tlc := rfl
@[simp] theorem State.setNextOrdinal_fw (u : UnitId) (w : Word) : (s.setNextOrdinal u w).fw = s.fw := rfl
@[simp] theorem State.setNextOrdinal_fr (u : UnitId) (w : Word) : (s.setNextOrdinal u w).fr = s.fr := rfl
@[simp] theorem State.setNextOrdinal_vu (u : UnitId) (w : Word) : (s.setNextOrdinal u w).vu = s.vu := rfl
@[simp] theorem State.setNextOrdinal_bu (u : UnitId) (w : Word) : (s.setNextOrdinal u w).bu = s.bu := rfl
@[simp] theorem State.setNextOrdinal_cmp (u : UnitId) (w : Word) : (s.setNextOrdinal u w).cmp = s.cmp := rfl
@[simp] theorem State.setNextOrdinal_pending (u : UnitId) (w : Word) : (s.setNextOrdinal u w).pending = s.pending := rfl

@[simp] theorem State.setAccount_hw (a : CopyAccount) : (s.setAccount a).hw = s.hw := rfl
@[simp] theorem State.setAccount_cu (a : CopyAccount) : (s.setAccount a).cu = s.cu := rfl
@[simp] theorem State.setAccount_oc (a : CopyAccount) : (s.setAccount a).oc = s.oc := rfl
@[simp] theorem State.setAccount_timer (a : CopyAccount) : (s.setAccount a).timer = s.timer := rfl
@[simp] theorem State.setAccount_tlc (a : CopyAccount) : (s.setAccount a).tlc = s.tlc := rfl
@[simp] theorem State.setAccount_fr (a : CopyAccount) : (s.setAccount a).fr = s.fr := rfl
@[simp] theorem State.setAccount_vu (a : CopyAccount) : (s.setAccount a).vu = s.vu := rfl
@[simp] theorem State.setAccount_rc (a : CopyAccount) : (s.setAccount a).rc = s.rc := rfl
@[simp] theorem State.setAccount_bu (a : CopyAccount) : (s.setAccount a).bu = s.bu := rfl
@[simp] theorem State.setAccount_cmp (a : CopyAccount) : (s.setAccount a).cmp = s.cmp := rfl
@[simp] theorem State.setAccount_pending (a : CopyAccount) : (s.setAccount a).pending = s.pending := rfl

@[simp] theorem State.setDataOut_cu (w : Word) : (s.setDataOut w).cu = s.cu := rfl
@[simp] theorem State.setDataOut_oc (w : Word) : (s.setDataOut w).oc = s.oc := rfl
@[simp] theorem State.setDataOut_timer (w : Word) : (s.setDataOut w).timer = s.timer := rfl
@[simp] theorem State.setDataOut_tlc (w : Word) : (s.setDataOut w).tlc = s.tlc := rfl
@[simp] theorem State.setDataOut_fw (w : Word) : (s.setDataOut w).fw = s.fw := rfl
@[simp] theorem State.setDataOut_fr (w : Word) : (s.setDataOut w).fr = s.fr := rfl
@[simp] theorem State.setDataOut_vu (w : Word) : (s.setDataOut w).vu = s.vu := rfl
@[simp] theorem State.setDataOut_rc (w : Word) : (s.setDataOut w).rc = s.rc := rfl
@[simp] theorem State.setDataOut_bu (w : Word) : (s.setDataOut w).bu = s.bu := rfl
@[simp] theorem State.setDataOut_cmp (w : Word) : (s.setDataOut w).cmp = s.cmp := rfl
@[simp] theorem State.setDataOut_pending (w : Word) : (s.setDataOut w).pending = s.pending := rfl

@[simp] theorem State.setLink_selected (u : UnitId) (l : UnitLink) : (s.setLink u l).tlc.selected = s.tlc.selected := rfl
@[simp] theorem State.setUnitState_selected (u : UnitId) (x : UnitState) :
    (s.setUnitState u x).tlc.selected = s.tlc.selected := rfl

@[simp] theorem State.link_setLink (u : UnitId) (l : UnitLink) : (s.setLink u l).link u = l :=
  PerUnit.get_set_self _ _ _

theorem State.link_setLink_other {u v : UnitId} (l : UnitLink) (h : v ≠ u) : (s.setLink u l).link v = s.link v :=
  PerUnit.get_set_other _ _ h

@[simp] theorem State.catalogue_setCatalogue (u : UnitId) (c : Catalogue) : (s.setCatalogue u c).catalogue u = c :=
  PerUnit.get_set_self _ _ _

theorem State.catalogue_setCatalogue_other {u v : UnitId} (c : Catalogue) (h : v ≠ u) :
    (s.setCatalogue u c).catalogue v = s.catalogue v :=
  PerUnit.get_set_other _ _ h

@[simp] theorem State.nextOrdinal_setNextOrdinal (u : UnitId) (w : Word) : (s.setNextOrdinal u w).nextOrdinal u = w :=
  PerUnit.get_set_self _ _ _

@[simp] theorem State.catalogue_setNextOrdinal (u v : UnitId) (w : Word) :
    (s.setNextOrdinal u w).catalogue v = s.catalogue v := rfl

/-! ### When a command is taken -/

/-- With nothing in its way a command is taken against the state as it stands. -/
theorem event_of_undisturbed (f : State → State) (h : s.undisturbed = true) : event f s = f s := by
  simp only [State.undisturbed, Bool.and_eq_true, Bool.not_eq_true', Bool.and_eq_false_iff] at h
  unfold event takeDueReset
  rw [h.1]
  rcases h.2 with h2 | h2 <;> simp [h2]

/-- A GO is taken against the state as it stands, a pending control reset and all (R148). -/
theorem goEvent_of_released (f : State → State) (h : s.hw.resetInput = false) : goEvent f s = f s := by
  simp [goEvent, h]

/-- While RESET is asserted a command changes nothing (R201). -/
theorem event_of_resetInput (f : State → State) (h : s.hw.resetInput = true) : event f s = s := by
  simp [event, h]

theorem goEvent_of_resetInput (f : State → State) (h : s.hw.resetInput = true) : goEvent f s = s := by
  simp [goEvent, h]

theorem readEvent_of_undisturbed (f : State → State) (h : s.undisturbed = true) : readEvent f s = f s := by
  simp only [State.undisturbed, Bool.and_eq_true, Bool.not_eq_true', Bool.and_eq_false_iff] at h
  unfold readEvent takeDueReset
  rw [h.1]
  rcases h.2 with h2 | h2 <;> simp [h2]

theorem readEvent_of_resetInput (f : State → State) (h : s.hw.resetInput = true) : readEvent f s = s.setDataOut 0 := by
  simp [readEvent, h]

/-- A line that changes with nothing in its way: the live copy, then the reaction. -/
theorem lineEvent_of_undisturbed (u : UnitId) (k : Line) (b : Bool) (f : State → State) (h : s.undisturbed = true)
    (hl : (s.link u).lines.get k ≠ b) : lineEvent u k b f s = f (s.setLine u k b) := by
  simp only [State.undisturbed, Bool.and_eq_true, Bool.not_eq_true', Bool.and_eq_false_iff] at h
  unfold lineEvent takeDueReset
  rw [if_neg hl, h.1]
  rcases h.2 with h2 | h2 <;> simp [h2]

/-! ### Posting, release, the modes of the OC -/

@[simp] theorem post_hw (c : Command) (r : Completion) : (post c r s).hw = s.hw := rfl
@[simp] theorem post_cu (c : Command) (r : Completion) : (post c r s).cu = s.cu := rfl
@[simp] theorem post_oc (c : Command) (r : Completion) : (post c r s).oc = s.oc := rfl
@[simp] theorem post_timer (c : Command) (r : Completion) : (post c r s).timer = s.timer := rfl
@[simp] theorem post_tlc (c : Command) (r : Completion) : (post c r s).tlc = s.tlc := rfl
@[simp] theorem post_fw (c : Command) (r : Completion) : (post c r s).fw = s.fw := rfl
@[simp] theorem post_fr (c : Command) (r : Completion) : (post c r s).fr = s.fr := rfl
@[simp] theorem post_vu (c : Command) (r : Completion) : (post c r s).vu = s.vu := rfl
@[simp] theorem post_rc (c : Command) (r : Completion) : (post c r s).rc = s.rc := rfl
@[simp] theorem post_pending (c : Command) (r : Completion) : (post c r s).pending = s.pending := rfl

@[simp] theorem enterIdle_hw : (enterIdle s).hw = s.hw := rfl
@[simp] theorem enterIdle_cu : (enterIdle s).cu = s.cu := rfl
@[simp] theorem enterIdle_tlc : (enterIdle s).tlc = s.tlc := rfl
@[simp] theorem enterIdle_fw : (enterIdle s).fw = s.fw := rfl
@[simp] theorem enterIdle_fr : (enterIdle s).fr = s.fr := rfl
@[simp] theorem enterIdle_vu : (enterIdle s).vu = s.vu := rfl
@[simp] theorem enterIdle_rc : (enterIdle s).rc = s.rc := rfl
@[simp] theorem enterIdle_bu : (enterIdle s).bu = s.bu := rfl
@[simp] theorem enterIdle_cmp : (enterIdle s).cmp = s.cmp := rfl
@[simp] theorem enterIdle_pending : (enterIdle s).pending = s.pending := rfl
@[simp] theorem enterIdle_oc : (enterIdle s).oc = .idle := rfl
@[simp] theorem enterIdle_timer : (enterIdle s).timer = .stopped := rfl

@[simp] theorem releaseUnit_hw : (releaseUnit s).hw = s.hw := rfl
@[simp] theorem releaseUnit_cu : (releaseUnit s).cu = s.cu := rfl
@[simp] theorem releaseUnit_oc : (releaseUnit s).oc = s.oc := rfl
@[simp] theorem releaseUnit_timer : (releaseUnit s).timer = s.timer := rfl
@[simp] theorem releaseUnit_fr : (releaseUnit s).fr = s.fr := rfl
@[simp] theorem releaseUnit_vu : (releaseUnit s).vu = s.vu := rfl
@[simp] theorem releaseUnit_rc : (releaseUnit s).rc = s.rc := rfl
@[simp] theorem releaseUnit_bu : (releaseUnit s).bu = s.bu := rfl
@[simp] theorem releaseUnit_cmp : (releaseUnit s).cmp = s.cmp := rfl
@[simp] theorem releaseUnit_pending : (releaseUnit s).pending = s.pending := rfl
@[simp] theorem releaseUnit_selected : (releaseUnit s).tlc.selected = none := rfl
@[simp] theorem releaseUnit_gate : (releaseUnit s).fw.gate = false := rfl
@[simp] theorem releaseUnit_units : (releaseUnit s).tlc.units = s.tlc.units := rfl

@[simp] theorem enterPhase_hw (a : Active) (p : Phase) (n : Option Nat) : (enterPhase a p n s).hw = s.hw := rfl
@[simp] theorem enterPhase_cu (a : Active) (p : Phase) (n : Option Nat) : (enterPhase a p n s).cu = s.cu := rfl
@[simp] theorem enterPhase_tlc (a : Active) (p : Phase) (n : Option Nat) : (enterPhase a p n s).tlc = s.tlc := rfl
@[simp] theorem enterPhase_fw (a : Active) (p : Phase) (n : Option Nat) : (enterPhase a p n s).fw = s.fw := rfl
@[simp] theorem enterPhase_fr (a : Active) (p : Phase) (n : Option Nat) : (enterPhase a p n s).fr = s.fr := rfl
@[simp] theorem enterPhase_vu (a : Active) (p : Phase) (n : Option Nat) : (enterPhase a p n s).vu = s.vu := rfl
@[simp] theorem enterPhase_rc (a : Active) (p : Phase) (n : Option Nat) : (enterPhase a p n s).rc = s.rc := rfl
@[simp] theorem enterPhase_bu (a : Active) (p : Phase) (n : Option Nat) : (enterPhase a p n s).bu = s.bu := rfl
@[simp] theorem enterPhase_cmp (a : Active) (p : Phase) (n : Option Nat) : (enterPhase a p n s).cmp = s.cmp := rfl
@[simp] theorem enterPhase_pending (a : Active) (p : Phase) (n : Option Nat) : (enterPhase a p n s).pending = s.pending := rfl
@[simp] theorem enterPhase_oc (a : Active) (p : Phase) (n : Option Nat) :
    (enterPhase a p n s).oc = .active { a with phase := p } := rfl

@[simp] theorem enterFinish_hw (a : Active) (n : Nat) : (enterFinish a n s).hw = s.hw := rfl
@[simp] theorem enterFinish_cu (a : Active) (n : Nat) : (enterFinish a n s).cu = s.cu := rfl
@[simp] theorem enterFinish_tlc (a : Active) (n : Nat) : (enterFinish a n s).tlc = s.tlc := rfl
@[simp] theorem enterFinish_fw (a : Active) (n : Nat) : (enterFinish a n s).fw = s.fw := rfl
@[simp] theorem enterFinish_fr (a : Active) (n : Nat) : (enterFinish a n s).fr = s.fr := rfl
@[simp] theorem enterFinish_vu (a : Active) (n : Nat) : (enterFinish a n s).vu = s.vu := rfl
@[simp] theorem enterFinish_rc (a : Active) (n : Nat) : (enterFinish a n s).rc = s.rc := rfl
@[simp] theorem enterFinish_bu (a : Active) (n : Nat) : (enterFinish a n s).bu = s.bu := rfl
@[simp] theorem enterFinish_cmp (a : Active) (n : Nat) : (enterFinish a n s).cmp = s.cmp := rfl
@[simp] theorem enterFinish_pending (a : Active) (n : Nat) : (enterFinish a n s).pending = s.pending := rfl

/-- What STOP does (R27): nothing to a unit that is not under way; otherwise the unit is STOPPING or, at rest, IDLE, and the timers
follow. -/
theorem sendStop_cases :
    sendStop s = s ∨
    ∃ u, s.tlc.selected = some u ∧
      sendStop s =
        (s.setUnitState u (if (s.link u).lines.moving then .stopping else .idle)).setTlc
          { (s.setUnitState u (if (s.link u).lines.moving then .stopping else .idle)).tlc with
            request := some .stop, atSpeedTimer := false, acceptanceTimer := false,
            stopTimer := (s.link u).lines.moving } := by
  unfold sendStop
  cases hs : s.tlc.selected with
  | none => exact .inl rfl
  | some u =>
    dsimp only
    cases (s.link u).state <;> first | exact .inl rfl | exact .inr ⟨u, rfl, rfl⟩

@[simp] theorem sendStop_hw : (sendStop s).hw = s.hw := by
  rcases sendStop_cases s with h | ⟨u, -, h⟩ <;> (rw [h]; try rfl)
@[simp] theorem sendStop_cu : (sendStop s).cu = s.cu := by
  rcases sendStop_cases s with h | ⟨u, -, h⟩ <;> (rw [h]; try rfl)
@[simp] theorem sendStop_oc : (sendStop s).oc = s.oc := by
  rcases sendStop_cases s with h | ⟨u, -, h⟩ <;> (rw [h]; try rfl)
@[simp] theorem sendStop_timer : (sendStop s).timer = s.timer := by
  rcases sendStop_cases s with h | ⟨u, -, h⟩ <;> (rw [h]; try rfl)
@[simp] theorem sendStop_fw : (sendStop s).fw = s.fw := by
  rcases sendStop_cases s with h | ⟨u, -, h⟩ <;> (rw [h]; try rfl)
@[simp] theorem sendStop_fr : (sendStop s).fr = s.fr := by
  rcases sendStop_cases s with h | ⟨u, -, h⟩ <;> (rw [h]; try rfl)
@[simp] theorem sendStop_vu : (sendStop s).vu = s.vu := by
  rcases sendStop_cases s with h | ⟨u, -, h⟩ <;> (rw [h]; try rfl)
@[simp] theorem sendStop_rc : (sendStop s).rc = s.rc := by
  rcases sendStop_cases s with h | ⟨u, -, h⟩ <;> (rw [h]; try rfl)
@[simp] theorem sendStop_bu : (sendStop s).bu = s.bu := by
  rcases sendStop_cases s with h | ⟨u, -, h⟩ <;> (rw [h]; try rfl)
@[simp] theorem sendStop_cmp : (sendStop s).cmp = s.cmp := by
  rcases sendStop_cases s with h | ⟨u, -, h⟩ <;> (rw [h]; try rfl)
@[simp] theorem sendStop_pending : (sendStop s).pending = s.pending := by
  rcases sendStop_cases s with h | ⟨u, -, h⟩ <;> (rw [h]; try rfl)
@[simp] theorem sendStop_selected : (sendStop s).tlc.selected = s.tlc.selected := by
  rcases sendStop_cases s with h | ⟨u, -, h⟩ <;> (rw [h]; try rfl)

/-- STOPPING, or at once IDLE when no stop is running (R59). -/
theorem enterStopping_cases :
    (s.stopRunning = true ∧ enterStopping s = (s.setOc .stopping).setTimer s.timer.atStop) ∨
    (s.stopRunning = false ∧ enterStopping s = stopDone ((s.setOc .stopping).setTimer s.timer.atStop)) := by
  have e : ((s.setOc .stopping).setTimer s.timer.atStop).stopRunning = s.stopRunning := rfl
  unfold enterStopping
  by_cases h : s.stopRunning = true
  · exact .inl ⟨h, by simp [e, h]⟩
  · exact .inr ⟨by simpa using h, by simp [e, h]⟩

@[simp] theorem PhaseTimer.atStop_stopped : PhaseTimer.atStop .stopped = .stopped := rfl
@[simp] theorem PhaseTimer.atStop_phase (t : PhaseTimer) : t.atStop.phase = t.phase := rfl
@[simp] theorem PhaseTimer.tick_stopped : PhaseTimer.tick .stopped = .stopped := rfl
@[simp] theorem PhaseTimer.tick_target (t : PhaseTimer) : t.tick.target = t.target := rfl

/-- A control reset leaves the Phase Timer stopped, whether the stop it asks is still running or already complete (R61). -/
@[simp] theorem controlResetEffect_timer : (controlResetEffect s).timer = .stopped := by
  unfold controlResetEffect
  rcases enterStopping_cases ((sendStop (clearCommandSide (describeCommitted s))).setTimer .stopped) with ⟨-, h⟩ | ⟨-, h⟩ <;>
    rw [h] <;> rfl

/-- What an open record gives the completion: nothing, or the three conditions it has from its header run (R159, R184). -/
theorem Active.withOpenRecord_cases (a : Active) (fr : FrameReader) :
    a.withOpenRecord fr = a ∨
    (∃ o, fr.record = some o ∧ o.received = true ∧
      a.withOpenRecord fr =
        { a with
          qualifiers :=
            { a.qualifiers with
              overrun := a.qualifiers.overrun || o.overrun
              lengthExcess := a.qualifiers.lengthExcess || o.lengthExcess
              longRecord := a.qualifiers.longRecord || (o.header.map Header.long).getD false } }) := by
  unfold Active.withOpenRecord
  cases h : fr.record with
  | none => exact .inl rfl
  | some o =>
    cases ho : o.received
    · exact .inl (by simp [ho])
    · exact .inr ⟨o, rfl, ho, by simp [ho]⟩

@[simp] theorem Active.withOpenRecord_none (a : Active) (fr : FrameReader) (h : fr.record = none) :
    a.withOpenRecord fr = a := by
  simp [Active.withOpenRecord, h]

@[simp] theorem Active.withOpenRecord_cmd (a : Active) (fr : FrameReader) : (a.withOpenRecord fr).cmd = a.cmd := by
  rcases a.withOpenRecord_cases fr with h | ⟨o, -, -, h⟩ <;> rw [h]

@[simp] theorem stopDone_oc : (stopDone s).oc = .idle := rfl
@[simp] theorem stopDone_selected : (stopDone s).tlc.selected = none := rfl
@[simp] theorem stopDone_gate : (stopDone s).fw.gate = false := rfl
@[simp] theorem stopDone_timer : (stopDone s).timer = .stopped := rfl

/-- The end of an operation: the effect of a pending control reset, or the posting and what follows it. -/
theorem conclude_cases (a : Active) (o : CmdOutcome) (e : Ending) :
    (s.hw.resetPending = true ∧ conclude a o e s = controlResetEffect s) ∨
    (s.hw.resetPending = false ∧
      conclude a o e s =
        (match e with
         | .finish n => enterFinish a n (postActive a o s)
         | .stop => enterStopping (postActive a o s)
         | .idle => enterIdle (postActive a o s))) := by
  unfold conclude
  cases h : s.hw.resetPending
  · exact .inr ⟨rfl, rfl⟩
  · exact .inl ⟨rfl, rfl⟩

/-! ### The reader: only its own block and the catalogue -/

/-- The states agree on every block but the Frame Reader and the Record Catalogue. -/
def SameButReader (s t : State) : Prop :=
  t.hw = s.hw ∧ t.cu = s.cu ∧ t.oc = s.oc ∧ t.timer = s.timer ∧ t.tlc = s.tlc ∧ t.fw = s.fw ∧ t.vu = s.vu ∧
    t.bu = s.bu ∧ t.cmp = s.cmp ∧ t.pending = s.pending

theorem SameButReader.refl (s : State) : SameButReader s s := ⟨rfl, rfl, rfl, rfl, rfl, rfl, rfl, rfl, rfl, rfl⟩

theorem SameButReader.trans {s t r : State} (h : SameButReader s t) (k : SameButReader t r) : SameButReader s r := by
  obtain ⟨h1, h2, h3, h4, h5, h6, h7, h8, h9, h10⟩ := h
  obtain ⟨k1, k2, k3, k4, k5, k6, k7, k8, k9, k10⟩ := k
  exact ⟨k1.trans h1, k2.trans h2, k3.trans h3, k4.trans h4, k5.trans h5, k6.trans h6, k7.trans h7, k8.trans h8,
    k9.trans h9, k10.trans h10⟩

theorem SameButReader.setFr (s : State) (x : FrameReader) : SameButReader s (s.setFr x) :=
  ⟨rfl, rfl, rfl, rfl, rfl, rfl, rfl, rfl, rfl, rfl⟩

theorem placeForward_same (u : UnitId) (r : RecordInfo) (p : Bool) : SameButReader s (placeForward u r p s) := by
  unfold placeForward; split <;> exact ⟨rfl, rfl, rfl, rfl, rfl, rfl, rfl, rfl, rfl, rfl⟩

theorem placeReverse_same (u : UnitId) (r : RecordInfo) : SameButReader s (placeReverse u r s) := by
  unfold placeReverse; split <;> exact ⟨rfl, rfl, rfl, rfl, rfl, rfl, rfl, rfl, rfl, rfl⟩

/-- A close touches the Frame Reader and the catalogue alone (R94). -/
theorem closeRecord_same (r : OpenRecord) (h : Header) (t : Trailer) (rev : Bool) :
    SameButReader s (closeRecord r h t rev s).1 := by
  unfold closeRecord
  cases hs : s.tlc.selected with
  | none => exact SameButReader.setFr _ _
  | some u =>
    cases rev
    · exact (placeForward_same s u _ false).trans (SameButReader.setFr _ _)
    · exact (placeReverse_same s u _).trans (SameButReader.setFr _ _)

theorem breakForward_same (r : Run) : SameButReader s (breakForward r s).1 := by
  unfold breakForward
  split
  · split
    · exact SameButReader.refl _
    all_goals exact SameButReader.setFr _ _
  · dsimp only
    split
    · exact SameButReader.refl _
    · split <;> exact SameButReader.setFr _ _
    all_goals exact (SameButReader.setFr s _).trans (closeRecord_same _ _ _ _ _)

theorem breakReverse_same (r : Run) : SameButReader s (breakReverse r s).1 := by
  unfold breakReverse
  dsimp only
  split
  · exact SameButReader.refl _
  · split
    · exact SameButReader.setFr _ _
    · split <;> exact SameButReader.setFr _ _
  · split <;> exact SameButReader.setFr _ _
  · split
    · exact (SameButReader.setFr s _).trans (closeRecord_same _ _ _ _ _)
    · exact (SameButReader.setFr s _).trans (closeRecord_same _ _ _ _ _)

/-- The closing half of a break touches the Frame Reader and the catalogue alone. -/
theorem breakClose_same : SameButReader s (breakClose s).1 := by
  unfold breakClose
  split
  · split
    · exact breakForward_same _ _
    · exact (SameButReader.setFr s _).trans (breakForward_same _ _)
  · exact (SameButReader.setFr s _).trans (breakReverse_same _ _)
  · exact SameButReader.refl _

/-- So does its opening half. -/
theorem breakOpen_same : SameButReader s (breakOpen s) := by
  unfold breakOpen
  split
  · split <;> exact SameButReader.setFr _ _
  · exact SameButReader.setFr _ _

/-- What a close forced by an event does (R95): nothing with no operation active or nothing closed, else the active record credited,
a void's bytes discarded, the receiving flag clear for a received record. -/
theorem noteClose_cases (p : ParseReport) :
    noteClose p s = s ∨
    ∃ r a, p = .closed r ∧ s.oc = .active a ∧
      noteClose p s =
        (if r.received then stopReceiving (discardVoid (creditClose a r) r s).2
          else (discardVoid (creditClose a r) r s).2).setOc
          (.active
            { (discardVoid (creditClose a r) r s).1 with
              qualifiers := recordQualifiers r (discardVoid (creditClose a r) r s).1.qualifiers }) := by
  unfold noteClose
  split
  · exact .inr ⟨_, _, rfl, ‹_›, rfl⟩
  · exact .inl rfl

theorem noteClose_of_inactive (p : ParseReport) (h : s.active = none) : noteClose p s = s := by
  rcases noteClose_cases s p with e | ⟨r, a, -, ha, -⟩
  · exact e
  · simp [State.active, ha] at h

/-- The bytes discarded are the named buffer's fill and the byte count, nothing else. -/
theorem discardVoid_cases (a : Active) (r : CloseReport) :
    discardVoid a r s = (a, s) ∨
    (a.cmd.code = .read ∧ r.received = true ∧ r.trailer = .void ∧ s.hw.resetPending = false ∧
      discardVoid a r s = ({ a with bytes := 0 }, s.setBu (s.bu.setFill a.cmd.buffer 0))) := by
  unfold discardVoid
  split
  · rename_i h; exact .inr ⟨h.1, h.2.1, h.2.2.1, h.2.2.2, rfl⟩
  · exact .inl rfl

/-- The command and the phase of the active record outlast the credit of a close. -/
theorem creditClose_cmd (a : Active) (r : CloseReport) : (creditClose a r).cmd = a.cmd := by
  unfold creditClose
  dsimp only
  repeat' split
  all_goals rfl

theorem creditClose_phase (a : Active) (r : CloseReport) : (creditClose a r).phase = a.phase := by
  unfold creditClose
  dsimp only
  repeat' split
  all_goals rfl

/-- The states agree on the blocks that no close touches. -/
def SameButClose (s t : State) : Prop :=
  t.hw = s.hw ∧ t.cu = s.cu ∧ t.timer = s.timer ∧ t.tlc = s.tlc ∧ t.fw = s.fw ∧ t.vu = s.vu ∧ t.cmp = s.cmp ∧
    t.pending = s.pending

theorem SameButClose.refl (s : State) : SameButClose s s := ⟨rfl, rfl, rfl, rfl, rfl, rfl, rfl, rfl⟩

theorem SameButClose.trans {s t r : State} (h : SameButClose s t) (k : SameButClose t r) : SameButClose s r := by
  obtain ⟨h1, h2, h3, h4, h5, h6, h7, h8⟩ := h
  obtain ⟨k1, k2, k3, k4, k5, k6, k7, k8⟩ := k
  exact ⟨k1.trans h1, k2.trans h2, k3.trans h3, k4.trans h4, k5.trans h5, k6.trans h6, k7.trans h7, k8.trans h8⟩

theorem SameButReader.toClose {s t : State} (h : SameButReader s t) : SameButClose s t := by
  obtain ⟨h1, h2, -, h4, h5, h6, h7, -, h9, h10⟩ := h
  exact ⟨h1, h2, h4, h5, h6, h7, h9, h10⟩

theorem noteClose_same (p : ParseReport) : SameButClose s (noteClose p s) := by
  rcases noteClose_cases s p with e | ⟨r, a, -, -, e⟩
  · rw [e]; exact SameButClose.refl s
  · rw [e]
    rcases discardVoid_cases s (creditClose a r) r with d | ⟨-, -, -, -, d⟩ <;> rw [d] <;> split <;>
      exact ⟨rfl, rfl, rfl, rfl, rfl, rfl, rfl, rfl⟩

/-- A close forced by an event leaves an active operation active, with its command and its phase. -/
theorem noteClose_oc (p : ParseReport) :
    (noteClose p s).oc = s.oc ∨
    ∃ a b, s.oc = .active a ∧ (noteClose p s).oc = .active b ∧ b.cmd = a.cmd ∧ b.phase = a.phase := by
  rcases noteClose_cases s p with e | ⟨r, a, -, ha, e⟩
  · rw [e]; exact .inl rfl
  · refine .inr ⟨a, _, ha, by rw [e]; rfl, ?_, ?_⟩ <;>
      rcases discardVoid_cases s (creditClose a r) r with d | ⟨-, -, -, -, d⟩ <;> rw [d] <;>
      first | exact creditClose_cmd a r | exact creditClose_phase a r

/-- What an event of R95 does with a frame still being assembled: in PARSE, with a run in progress and the frame not yet handed, the run
takes it in (log 21); else nothing. -/
theorem handOpenFrame_cases :
    handOpenFrame s = s ∨
    ∃ x r rev, s.fr.frame = some x ∧ s.fr.run = some r ∧ s.fr.mode = .parse rev ∧ x.handed = false ∧
      handOpenFrame s =
        s.setFr
          { s.fr with
            frame := some { x with handed := true }
            run := some { r.join (selectFrame x) with lengthExcess := r.lengthExcess || s.passesCount r } } := by
  unfold handOpenFrame
  split
  · split
    · exact .inl rfl
    · rename_i h; exact .inr ⟨_, _, _, ‹_›, ‹_›, ‹_›, by simpa using h, rfl⟩
  · exact .inl rfl

theorem handOpenFrame_same : SameButReader s (handOpenFrame s) := by
  rcases handOpenFrame_cases s with e | ⟨x, r, rev, -, -, -, -, e⟩ <;> rw [e]
  · exact SameButReader.refl s
  · exact SameButReader.setFr s _

/-- The reader's part of a stop complete with no operation active touches the Frame Reader and the catalogue alone (R95). -/
theorem readerAtStop_same (m : ReaderMode) (h : s.active = none) : SameButReader s (readerAtStop m s) := by
  have hb := (handOpenFrame_same s).trans (breakClose_same _)
  have hn : (breakClose (handOpenFrame s)).1.active = none := by
    unfold State.active; rw [hb.2.2.1]; exact h
  unfold readerAtStop
  dsimp only
  rw [noteClose_of_inactive _ _ hn]
  exact hb.trans ((breakOpen_same _).trans (SameButReader.setFr _ _))

/-- With one active it may also credit the record it closes to the command. -/
theorem readerAtStop_sameButClose (m : ReaderMode) : SameButClose s (readerAtStop m s) :=
  ((handOpenFrame_same s).trans (breakClose_same _)).toClose.trans
    ((noteClose_same _ _).trans ((breakOpen_same _).toClose.trans (SameButReader.setFr _ _).toClose))

/-! ### Phases and ticks -/

/-- The OC follows the parse between SEARCH and RECORD, each entered with the phase count at zero, and nothing else changes (R45,
R53). -/
theorem syncPhase_cases :
    syncPhase s = s ∨
    (∃ a, s.oc = .active a ∧ a.phase = .search ∧ s.fr.record.isSome = true ∧
      syncPhase s = enterPhase a .record none s) ∨
    (∃ a, s.oc = .active a ∧ a.phase = .record ∧ s.fr.record.isSome = false ∧
      syncPhase s = enterPhase a .search none s) := by
  unfold syncPhase
  split
  · rename_i a ha
    split
    · rename_i h; exact .inr (.inl ⟨a, ha, h.1, h.2, rfl⟩)
    · split
      · rename_i h; exact .inr (.inr ⟨a, ha, h.1, h.2, rfl⟩)
      · exact .inl rfl
  · exact .inl rfl

/-- The request at a tick whose frame is not written takes one byte of the stream queue or nothing (R69). -/
theorem requestLostByte_cases :
    requestLostByte s = s ∨
    (s.fw.watch.isSome = true ∧ s.streamFrameDue = true ∧
      requestLostByte s = s.setBu { s.bu with stream := s.bu.stream.drop 1 }) := by
  unfold requestLostByte
  split
  · rename_i h; rw [Bool.and_eq_true] at h; exact .inr ⟨h.1, h.2, rfl⟩
  · exact .inl rfl

/-- A tick of the counts: the Phase Timer's, the reader's, and the strobe (R14, R16, R17, R45). -/
theorem countTick_blocks :
    (countTick s).hw = s.hw ∧ (countTick s).cu = s.cu ∧ (countTick s).oc = s.oc ∧ (countTick s).tlc = s.tlc ∧
      (countTick s).vu = s.vu ∧ (countTick s).rc = s.rc ∧ (countTick s).bu = s.bu ∧ (countTick s).cmp = s.cmp ∧
      (countTick s).pending = s.pending ∧ (countTick s).fw = { s.fw with strobe := false } ∧
      (countTick s).timer = s.timer.tick :=
  ⟨rfl, rfl, rfl, rfl, rfl, rfl, rfl, rfl, rfl, rfl, rfl⟩

/-- Within TURN the stop is followed by reverse PARSE, REVERSE and the reverse ramp, the Phase Timer as it stands (R45, R54, R95). -/
theorem turnToReverse_timer : (turnToReverse s).timer = s.timer := by
  have h := (readerAtStop_sameButClose s (.parse true)).2.2.1
  unfold turnToReverse
  dsimp only
  rw [show s.timer = _ from h.symm]
  generalize readerAtStop (.parse true) s = r
  split <;> split <;> rfl

end Sys2Proof.Machine
end

