-- ==== Sys2Proof/Tests/Slice0.lean ====
section
/-! SUPPORT. Tests: the WellFormed smoke, one-step tests with results taken from the spec, and for every obligation with
hypotheses a witness theorem, `test_hyp_<obligation>`, whose state and operands meet them, at boundary values where a clause has
a range. -/

namespace Sys2Proof.Tests

open Sys2Proof.Machine

/-! ### States -/

/-- A unit's lines: present, ready, write permit. -/
def readyLines : Lines := { Lines.low with present := true, ready := true, writePermit := true }

/-- The lines of a unit under way. -/
def movingLines : Lines := { readyLines with moving := true, atSpeed := true }

/-- Unit 0 in a state, with these lines. -/
def withUnit (l : Lines) (st : UnitState) (s : State) : State :=
  s.setLink 0 { UnitLink.reset with lines := l, state := st }

/-- A command for unit 0. -/
def cmd (code : CommandCode) : Command :=
  { tag := 5, code := code, unit := 0, reverse := false, count := 1, arg := 12, retry := 0, buffer := 0,
    strict := false, weakStart := false }

/-- An active operation in a phase. -/
def act (code : CommandCode) (p : Phase) : Active :=
  { cmd := cmd code, reverse := false, profile := .reset, phase := p, fromRest := true, loadPointAtStart := false,
    ordinal := none, copyCounter := 1, plan := none, verdict := none, skipped := false, voidOutcome := .done,
    abortMark := false, abortLate := false, endRisen := false, passed := 0, marks := 0, bytes := 0,
    qualifiers := .empty }

/-- Unit 0 selected, with this operation and unit state. -/
def running (o : Operation) (st : UnitState) (l : Lines) : State :=
  let s := withUnit l st State.reset
  { s with oc := o, tlc := { s.tlc with selected := some 0 } }

/-- The phase count at its target. -/
def due (n : Nat) (s : State) : State := s.setTimer { phase := some n, target := some n, deadline := none }

/-- A completion with this tag. -/
def completion (t : Tag) : Completion := { Completion.bare (cmd .rewind) .done with tag := t }

/-- A copy account in progress. -/
def account (n : Nat) (lcf : LcfStatus) (t : TrailerStatus) : CopyAccount :=
  { kind := .data, ordinal := 7, copy := 1, source := .buffer 0, planned := 1, headerRun := n, dataFrames := n - 3,
    cut := none, lcf := lcf, trailer := t, passed := false, ended := .inProgress }

/-- A record of one data frame with ordinal n. -/
def record (n : Word) (t : Trailer) : RecordInfo :=
  { ident := some { ordinal := n, copy := 1 }, kind := .data, length := 1, long := false, trailer := t,
    condition := .unchecked }

/-- A run of these frames, all clean, as a forward header run or trailer of the part's own writing. -/
def runOf (l : List Byte) : Run :=
  (l.map fun b => selectFrame { strong := frameOf b, weak := frameOf b, sampling := false, skew := false, age := 2, handed := false }).foldl
    Run.join (Run.start false)

/-- The reader in PARSE forward with a run at its break. -/
def atBreak (r : Run) (o : Option OpenRecord) (s : State) : State :=
  s.setFr { FrameReader.reset with mode := .parse false, run := some r, runCount := 2, record := o }

/-- A record open going forward. -/
def openRecord : OpenRecord :=
  { header := some ((runOf [0x02, 0, 7, 0x55]).decodeHeader false), lcf := true, trailer := none, received := false,
    lengthExcess := false, overrun := false }

/-- The state an outcome goes on with. -/
def after (o : Host.Outcome State Fault Refusal) : Option State :=
  match o with
  | .next t => some t
  | _ => none

/-! ### WellFormed: each check refuses an ill-formed command -/

theorem test_wf_action : (Instr.registerWrite 0x02 5).wellFormed = false := by decide
theorem test_wf_submit : (Instr.registerWrite 0x0C 0).wellFormed = false := by decide
theorem test_wf_inten : (Instr.registerWrite 0x0E 0).wellFormed = false := by decide
theorem test_wf_bufsel : (Instr.registerWrite 0x20 0).wellFormed = false := by decide
theorem test_wf_bufptr : (Instr.registerWrite 0x22 0).wellFormed = false := by decide
theorem test_wf_bufdata : (Instr.registerWrite 0x24 0).wellFormed = false := by decide
theorem test_wf_stream : (Instr.registerWrite 0x26 0).wellFormed = false := by decide
theorem test_wf_dmasrc : (Instr.registerWrite 0x2A 0).wellFormed = false := by decide
/-- An odd offset is the word below it. -/
theorem test_wf_catsel_odd : (Instr.registerWrite 0x2D 0).wellFormed = false := by decide
theorem test_wf_staging : (Instr.registerWrite 0x04 1).wellFormed = true := by decide
theorem test_wf_action_unassigned : (Instr.registerWrite 0x02 6).wellFormed = true := by decide

/-! ### Values the spec writes out -/

/-- Table 2-4: after hardware reset the head distance is 32. -/
theorem test_reset_profile : (State.reset.link 3).profile.headDistance = 32 := by decide
/-- R1, R6: 3Ch has four ones in two pairs, so E and O are ones and the commit trailer's first frame is 3Ch with both. -/
theorem test_commit_frame : frameOf 0x3C = 0x33C#10 := by decide
/-- R3: a mark of copy 2 has H0 = 05h. -/
theorem test_header_zero : headerZero .mark 2 = 0x05#8 := by decide
/-- R91: the commit trailer read back in reverse is recognised. -/
theorem test_trailer_reverse : (runOf [0xC3, 0x3C]).trailerPattern true = some .commit := by decide
/-- R90: the header of copy 1, ordinal 0107h. -/
theorem test_decode_header :
    ((runOf [0x02, 0x01, 0x07, 0xAA]).decodeHeader false).ident = some { ordinal := 0x0107, copy := 1 } := by decide

/-! ### One step each -/

/-- R206: POP is action 4 and reaches the ring through ACTION too. -/
theorem test_register_write_pop :
    after (exec (.registerWrite 0x02 4)
        { State.reset with cmp := { ring := [completion 1, completion 2], held := none } }) =
      some { State.reset with cmp := { ring := [completion 2], held := none } } := by decide
/-- R205: CMD keeps bits 0 to 6. -/
theorem test_register_write_cmd :
    after (exec (.registerWrite 0x05 0xFFFF) State.reset) =
      some { State.reset with hw := { HostWindow.reset with cmd := 0x7F } } := by decide
/-- R172, R2: the low byte goes to the pointer, the high byte behind it. -/
theorem test_bufdata_write :
    after (exec (.bufdataWrite 0xA001) State.reset) =
      some (State.reset.setBu
        { BufferUnit.reset with
          buffers := { b0 := { RecordBuffer.reset with contents := [(0, 0x01), (1, 0xA0)], pointer := 2 }, b1 := .reset } }) := by
  decide
/-- R147: READ with COUNT 4097 is refused BAD COUNT, which reads 5 in SUBMIT's result field. -/
theorem test_read_bad_count :
    after (exec (.read 0) { State.reset with hw := { HostWindow.reset with cmd := 5, count := 4097 } }) =
      some { State.reset with
        hw := { HostWindow.reset with cmd := 5, count := 4097 }, cu := { CommandUnit.reset with result := .badCount } } := by
  decide
/-- R123, R126: the first record passed forward makes an UNKNOWN catalogue FLOATING at position 1. -/
theorem test_first_record :
    Catalogue.unknown.passForward (record 7 .commit) =
      { state := .floating, entries := [record 7 .commit], position := 1 } := by decide

/-- The catalogue of the example "choosing among duplicates" in spec/07. -/
def duplicates : Catalogue :=
  { state := .floating
    entries := [record 40 .commit, record 41 .void, record 41 .commit, record 42 .commit, record 41 .commit, record 43 .none]
    position := 3 }

/-- Its four targets: equally near goes forward; behind; the second tier; none. -/
theorem test_plan_41 : duplicates.plan 41 = .space 1 false := by decide
theorem test_plan_40 : duplicates.plan 40 = .space 3 true := by decide
theorem test_plan_43 : duplicates.plan 43 = .space 2 false := by decide
theorem test_plan_44 : duplicates.plan 44 = .search := by decide

/-- The LCF of the first example of spec/01: 06h with E 0 and O 0. -/
theorem test_lcf_example : (runOf [0x00, 0x00, 0x05, 0x41, 0x42]).xor = 0x006#10 := by decide
/-- The blank LCF of the same example: ordinal 7, the one byte 07h. -/
theorem test_lcf_blank : (runOf [0x00, 0x00, 0x07, 0x07]).xor = 0 := by decide

/-! ### Witnesses of the obligations' hypotheses -/

/-- A state with every capacity reached: queue of 4, ring of 8 and a held record, both buffers as R170 says. -/
def full : State :=
  { State.reset with
    cu :=
      { queue :=
          [{ cmd .write with tag := 9 }, { cmd .rewind with tag := 10 }, { cmd .loadProfile with tag := 11 },
           { cmd .loadProfile with tag := 12, arg := 56 }],
        tagCounter := 13, lastTag := 12, result := .accepted }
    cmp := { ring := [0, 1, 2, 3, 4, 5, 6, 7].map completion, held := some (completion 8) }
    bu := { BufferUnit.reset with buffers := { b0 := { RecordBuffer.reset with committed := true, fill := 4096 }, b1 := .reset } }
    rc :=
      RecordCatalogue.reset.catalogues.set 0 { state := .floating, entries := List.replicate 32 (record 7 .commit), position := 32 }
        |> fun c => { RecordCatalogue.reset with catalogues := c }
    pending := [.pop] }

/-- What POP leaves of it. -/
def popped : State :=
  { full with cmp := { ring := [1, 2, 3, 4, 5, 6, 7, 8].map completion, held := none }, pending := [] }

/-- RESET asserted. -/
def inReset : State := State.reset.setHw { HostWindow.reset with resetInput := true }

/-- A control reset pending with the OC in IDLE: it is due. -/
def resetDue : State := State.reset.setHw { HostWindow.reset with resetPending := true }

/-- CMD, COUNT and ARG staged. -/
def stage (code count arg : Word) : State :=
  State.reset.setHw { HostWindow.reset with cmd := code, count := count, arg := arg }

/-- WRITE of 4096 bytes staged for buffer 0, three commands queued. -/
def staged : State :=
  (stage 1 4096 0).setCu
    { queue := [{ cmd .rewind with tag := 1 }, { cmd .rewind with tag := 2 }, { cmd .rewind with tag := 3 }],
      tagCounter := 4, lastTag := 3, result := .accepted }

/-- The tag counter stands at the tag of a completion in the ring. -/
def tagTaken : State := State.reset.setCmp { ring := [completion 0], held := none }

/-- Buffer 0 committed. -/
def held : State :=
  (stage 1 1 0).setBu
    { BufferUnit.reset with buffers := { b0 := { RecordBuffer.reset with committed := true }, b1 := .reset } }

/-- Unit 0 under way in a phase. -/
def inPhase (code : CommandCode) (p : Phase) : State := running (.active (act code p)) .runningForward movingLines

/-- A control reset pending while a record is open. -/
def busy : State := (inPhase .read .record).setHw { HostWindow.reset with resetPending := true }

/-- A reverse record open in TURN. -/
def turnWithRecord : State :=
  (inPhase .read .turnPass).setFr
    { FrameReader.reset with mode := .parse true, record := some { openRecord with header := none } }

def manyDiscards : State := State.reset.setHw { HostWindow.reset with discards := 15 }

/-- The selected buffer's pointer at p, the DMA source as given. -/
def pointerAt (p : Nat) (d : DmaSource) : State :=
  State.reset.setBu
    { BufferUnit.reset with
      buffers := { b0 := { RecordBuffer.reset with pointer := p, fill := 4096 }, b1 := .reset }, dma := d }

/-- WRITE STREAM active with n bytes in the stream queue, the DMA source STREAM. -/
def streaming (n : Nat) : State :=
  (inPhase .writeStream .guard).setBu { BufferUnit.reset with stream := List.replicate n 0, dma := .stream }

/-- A WRITE in its header run, a frame awaited, the gate ON. -/
def writing : State :=
  (inPhase .write .headerData).setFw
    { FrameWriter.reset with gate := true, watch := some .header, account := some (account 2 .pending .none) }

/-- A motion request sent for a command. -/
def rampingFor (c : CommandCode) (q : MotionRequest) : State :=
  let s := running (.active (act c .ramp)) .ramping readyLines
  { s with tlc := { s.tlc with request := some q, atSpeedTimer := true } }

def ramping : State := rampingFor .read .forward

/-- REWIND waits for acceptance. -/
def accepting : State :=
  let s := running (.active (act .rewind .acceptance)) .ramping readyLines
  { s with tlc := { s.tlc with request := some .rewind, acceptanceTimer := true } }

/-- A LOCATE search. -/
def locating : Active := { act .locate .search with plan := some .search }

/-- FINISH at its end. -/
def finishing (writeClass : Bool) : State :=
  due 16 (running (.finishing { unit := 0, writeClass := writeClass, reverse := false }) .runningForward movingLines)

def assembled : Assembly :=
  { strong := frameOf 0x3C, weak := frameOf 0x3C, sampling := false, skew := false, age := 2, handed := false }

def entry : WindowEntry := { value := frameOf 0x3C, role := .data, index := 3 }

/-- A catalogue of two records, ordinals 7 and 8, read as anchored, at a position. -/
def two (p : Nat) : Catalogue :=
  { state := .anchored, entries := [record 7 .commit, record 8 .commit], position := p }

/-! ### Steps of the repaired rules -/

/-- R148: a GO taken after CONTROL RESET finds it pending, with the OC IDLE too. -/
theorem test_write_after_control_reset :
    (after (exec (.write 0) { staged with hw := { staged.hw with resetPending := true } })).map (fun t => t.cu.result) =
      some .resetPending := by decide
/-- R17: the 4000th tick taken first ends the operation BLANK and leaves the header run unclassified. -/
theorem test_search_limit_drops_the_run :
    (after (exec .searchLimit ((inPhase .space .search).setFr
        { FrameReader.reset with
          mode := .parse false, run := some (runOf [0x02, 0, 7]), runCount := 2, search := some 4000 }))).map
      (fun t => (t.fr.run, t.cmp.ring.map Completion.outcome)) = some (none, [.blank]) := by decide
/-- R69: a stream byte due at the tick at which the echo is lost is removed and not written. -/
theorem test_tick_loses_the_byte :
    (after (exec (.distanceTick 0)
        { inPhase .writeStream .headerData with
          cu := { CommandUnit.reset with queue := [cmd .writeStream] }
          fw := { FrameWriter.reset with
            gate := true, watch := some .header, account := some { account 3 .pending .none with source := .stream } }
          bu := { BufferUnit.reset with stream := [1, 2] } })).map (fun t => t.bu.stream) = some [2] := by decide
/-- R159: the eighth void ends a READ VOID LIMIT, which carries VOIDS SKIPPED. -/
theorem test_void_limit_carries_voids_skipped :
    (after (exec .runBreak ((inPhase .read .record).setFr
        { FrameReader.reset with
          mode := .parse false, manner := .check, run := some (runOf [0x66, 0x99]), runCount := 2,
          record := some { openRecord with received := true }, account := { ReadAccount.empty with voids := 7 } }))).map
      (fun t => t.cmp.ring.map fun r => (r.outcome, r.qualifiers.voidsSkipped)) = some [(.voidLimit, true)] := by decide

/-- R99: the header run that closes a received record is classified before the posting, whose completion counts its frames. -/
theorem test_header_run_counts_for_the_record_it_closes :
    (after (exec .runBreak ((inPhase .read .record).setFr
        { FrameReader.reset with
          mode := .parse false, manner := .check, runCount := 2, record := some { openRecord with received := true }
          run := some { runOf [0x02, 0, 8] with tallies := { Tallies.zero with corrected := 2, skewed := 16 } } }))).map
      (fun t => t.cmp.ring.map fun r => (r.outcome, r.corrected, r.skew, r.qualifiers.corrected, r.qualifiers.marginal)) =
      some [(.unsealed, 2, 15, true, false)] := by decide

/-- R14, R95: the second trailer frame, still being assembled as END rises, has joined its run at its opening; its close hands on
nothing more. -/
theorem test_end_takes_the_open_frame :
    let x := { assembled with strong := frameOf 0xC3, weak := frameOf 0xC3 }
    let s := (inPhase .space .record).setFr
      { FrameReader.reset with mode := .parse false, run := some (runOf [0x3C]), frame := some x, record := some openRecord }
    (after (exec (.endRise 0) s)).map
        (fun t => ((t.catalogue 0).entries.map RecordInfo.trailer, t.fr.run, t.fr.frame)) =
      some ([.commit], none, some { x with handed := true }) := by decide

/-- Chapter 3, 3.2: the Phase Timer counts ticks during stopping; R61: not after a control reset. -/
theorem test_tick_counts_in_stopping :
    (∀ p ∈ [some 5, none],
      let s := (running .stopping .stopping movingLines).setTimer { phase := p, target := none, deadline := none };
      (after (exec (.distanceTick 0) s)).map (fun t => t.timer.phase) = some (p.map (· + 1))) := by decide
/-- R45: one phase, TURN, has one count: the stop complete within it does not start it again. -/
theorem test_turn_is_one_phase :
    let s := (running (.active (act .locate .turnStop)) .stopping movingLines).setTimer
      { phase := some 9, target := none, deadline := none };
    (after (exec (.movingFall 0) s)).map (fun t => t.timer.phase) = some (some 9) := by decide
/-- R159: a record open as the unit is lost, or as ABORT stops a READ in RAMP, gives its conditions. -/
theorem test_open_record_gives_its_conditions :
    (∀ i ∈ [Instr.presentFall 0, .readyFall 0, .abort, .atSpeedTimeout],
      let s := { ramping with
        fr :=
          { FrameReader.reset with
            mode := .parse false, manner := .check
            record := some { openRecord with received := true, lengthExcess := true } } }
      (after (exec i s)).map (fun t => t.cmp.ring.map fun r => r.qualifiers.lengthExcess) = some [true]) := by decide

theorem test_hyp_CapacitiesKeptByEveryStep :
    full.capacityOk ∧ after (step full) = some popped := by decide
theorem test_hyp_CataloguesKeptByEveryStep :
    full.cataloguesOk ∧ after (step full) = some popped := by decide
theorem test_hyp_ProfilesKeptByEveryStep :
    full.profilesOk ∧ after (step full) = some popped := by decide
theorem test_hyp_OperationCourseKeptByEveryStep :
    full.operationOk ∧ after (step full) = some popped := by decide
theorem test_hyp_TagsStayDistinctInEveryStep :
    full.tagsOk ∧ after (step full) = some popped := by decide
theorem test_hyp_BufferOwnersKeptByEveryStep :
    full.ownersOk ∧ after (step full) = some popped := by decide
theorem test_hyp_StepTakesFrontOrIdles :
    full.pending = .pop :: [] ∧ State.reset.pending = [] := by decide
theorem test_hyp_AssertedResetHoldsEveryBlock :
    inReset.hw.resetInput = true ∧ takenInReset .pop = false ∧ takenInReset .statusRead = false ∧
      readsWord .statusRead = true ∧ readsWord .pop = false := by decide
theorem test_hyp_DueControlResetComesFirst :
    resetDue.hw.resetInput = false ∧ resetDue.hw.resetPending = true ∧ resetDue.resetPoint = true ∧
      takenInReset .pop = false ∧ isGo .pop = false := by decide
/-- WRITE at COUNT 4096 with three commands queued. -/
theorem test_hyp_AcceptedGoQueuesTheStagedCommand :
    staged.undisturbed = true ∧ staged.hw.code = some .write ∧ staged.cu.queue.length < 4 ∧
      staged.tagCarried staged.cu.tagCounter = false ∧ staged.hw.resetPending = false ∧
      countInRange staged.hw .write = true ∧ argInRange staged.hw .write = true ∧ CommandCode.write.namesBuffer = true ∧
      (staged.bu.buffer staged.hw.buffer).committed = false := by decide
/-- Each range of COUNT and ARG at its ends, and a SUBMIT that can be read. -/
theorem test_hyp_AcceptedGoQueuesTheStagedCommand_ranges :
    (∀ x ∈ [(CommandCode.write, 1, true), (.write, 0, false), (.read, 4096, true), (.readStream, 4097, false),
        (.eraseGap, 40, true), (.eraseGap, 41, false), (.space, 4095, true), (.locate, 4096, false), (.rewind, 0, true)],
      countInRange (stage 1 (BitVec.ofNat 16 x.2.1) 0).hw x.1 = x.2.2) ∧
      (∀ x ∈ [(11, false), (12, true), (56, true), (57, false)],
        argInRange (stage 13 0 (BitVec.ofNat 16 x.1)).hw .loadProfile = x.2) ∧
      argInRange (stage 9 0 57).hw .locate = true ∧ staged.hw.resetInput = false := by decide
theorem test_hyp_RefusedGoGivesTheFirstReason_full :
    full.undisturbed = true ∧ 4 ≤ full.cu.queue.length ∧ full.hw.code = none ∧
      full.hw.resetInput = false ∧ tagTaken.hw.resetInput = false ∧
        tagTaken.cu.queue.length < 4 ∧ tagTaken.tagCarried tagTaken.cu.tagCounter = true := by decide
/-- A control reset waits for a record to close, and one that is due. -/
theorem test_hyp_RefusedGoGivesTheFirstReason_pending :
    resetDue.hw.resetInput = false ∧ resetDue.hw.resetPending = true ∧ resetDue.resetPoint = true ∧
      resetDue.cu.queue.length < 4 ∧ resetDue.tagCarried resetDue.cu.tagCounter = false ∧
      busy.hw.resetInput = false ∧ busy.hw.resetPending = true ∧ busy.cu.queue.length < 4 ∧
      busy.tagCarried busy.cu.tagCounter = false := by decide
theorem test_hyp_RefusedGoGivesTheFirstReason_code :
    (stage 0 0 0).hw.resetInput = false ∧ (stage 0 0 0).hw.code = none ∧ (stage 0 0 0).cu.queue.length < 4 ∧
      (stage 0 0 0).tagCarried (stage 0 0 0).cu.tagCounter = false ∧ (stage 0 0 0).hw.resetPending = false := by decide
theorem test_hyp_RefusedGoGivesTheFirstReason_count :
    (stage 1 4097 0).hw.resetInput = false ∧ (stage 1 4097 0).hw.code = some .write ∧
      (stage 1 4097 0).tagCarried (stage 1 4097 0).cu.tagCounter = false ∧
      countInRange (stage 1 4097 0).hw .write = false := by decide
theorem test_hyp_RefusedGoGivesTheFirstReason_argument :
    (stage 13 0 57).hw.resetInput = false ∧ (stage 13 0 57).hw.code = some .loadProfile ∧
      (stage 13 0 57).tagCarried (stage 13 0 57).cu.tagCounter = false ∧
      countInRange (stage 13 0 57).hw .loadProfile = true ∧ argInRange (stage 13 0 57).hw .loadProfile = false := by decide
theorem test_hyp_RefusedGoGivesTheFirstReason_busy :
    held.hw.resetInput = false ∧ held.hw.code = some .write ∧ held.cu.queue.length < 4 ∧
      held.tagCarried held.cu.tagCounter = false ∧ held.hw.resetPending = false ∧ countInRange held.hw .write = true ∧
      argInRange held.hw .write = true ∧ (held.bu.buffer held.hw.buffer).committed = true := by decide
theorem test_hyp_AbortIsAnsweredByPhase :
    State.reset.undisturbed = true ∧ State.reset.active = none ∧
      (∀ p ∈ [Phase.record, .checkSpace, .lcf, .drain, .trailer .void, .trailer .commit, .trailerCheck, .headerData],
        (inPhase .write p).undisturbed = true ∧ (act .write p).abortMark = false) ∧
      (turnWithRecord.undisturbed = true ∧ turnWithRecord.oc = .active (act .read .turnPass) ∧
        turnWithRecord.fr.record.isSome = true) := by decide
/-- A second ABORT finds the mark set. -/
theorem test_hyp_AbortIsAnsweredByPhase_marked :
    (running (.active { act .write .drain with abortMark := true }) .runningForward movingLines).undisturbed = true := by decide
theorem test_hyp_AbortBeforeTheWorkStopsAtOnce :
    (∀ p ∈ [Phase.ramp, .leader, .guard, .search, .turnStop, .acceptance, .turnRamp, .turnPass, .erase, .rewriteGap],
      (inPhase .write p).undisturbed = true ∧ (act .write p).abortMark = false ∧ (inPhase .write p).fr.record = none) := by decide
/-- The words of a stop: a unit under way with MOVING high and low, and one STOPPING; a record open and received. -/
theorem test_hyp_AbortBeforeTheWorkStopsAtOnce_stop :
    (∀ st ∈ [UnitState.ramping, .runningForward, .runningReverse, .stopping], ∀ l ∈ [movingLines, readyLines],
      let s := (running (.active (act .read .ramp)) st l).setFr
        { FrameReader.reset with mode := .parse false, record := some { openRecord with received := true } }
      s.undisturbed = true ∧ s.tlc.selected = some 0 ∧ (s.link 0).state = st ∧ (s.link 0).lines = l ∧
        (act .read .ramp).abortMark = false ∧
        (after (exec .abort s)).map (fun t => t.cmp.ring.length) = some 1) := by decide
/-- A READ STREAM in SEARCH whose run has delivered bytes. -/
theorem test_hyp_AbortBeforeTheWorkStopsAtOnce_bytes :
    let a := { act .readStream .search with bytes := 3, passed := 2 }
    let s := running (.active a) .runningForward movingLines
    (s.undisturbed = true ∧ s.oc = .active a ∧ a.abortMark = false ∧ a.bytes = 3 ∧
      (after (exec .abort s)).map (fun t => t.cmp.ring.map fun r => (r.byteCount, r.passed)) = some [(3, 2)]) := by decide
/-- The skip notice finds the Verify Unit listening with a failure, and idle. -/
theorem test_hyp_AbortIsAnsweredByPhase_skip :
    ({ VerifyUnit.reset with state := .listening, window := [entry], copyFailure := some .value } : VerifyUnit).state =
      .listening ∧ VerifyUnit.reset.state ≠ .listening := by decide
theorem test_hyp_FlushDiscardsTheQueue :
    full.undisturbed = true ∧ (∃ c ∈ full.cu.queue, c.code.namesBuffer = true) ∧ full.activeIs .writeStream = false ∧
      full.bu.delivery = false ∧ (inPhase .writeStream .guard).undisturbed = true ∧
      (inPhase .writeStream .guard).activeIs .writeStream = true := by decide
theorem test_hyp_ControlResetTakesEffectInOneStep :
    resetDue.hw.resetInput = false ∧ resetDue.hw.resetPending = true ∧ resetDue.resetPoint = true ∧
      resetDue.fr.run = none := by decide
/-- A copy whose commit trailer stands. -/
theorem test_hyp_ControlResetTakesEffectInOneStep_copy :
    let s := { inPhase .write .trailerCheck with
      hw := resetDue.hw
      fw := { FrameWriter.reset with account := some (account 4 .echoed (.complete .commit)) } }
    (s.hw.resetInput = false ∧ s.hw.resetPending = true ∧ s.resetPoint = true ∧ s.fr.run = none ∧
      s.oc = .active (act .write .trailerCheck) ∧ (account 4 .echoed (.complete .commit)).ended = .inProgress) := by decide
theorem test_hyp_PopTakesTheOldestCompletion :
    full.undisturbed = true ∧ full.cmp.ring = completion 0 :: full.cmp.ring.drop 1 ∧ State.reset.undisturbed = true ∧
      State.reset.cmp.ring = [] ∧ full.cmp.ring.length = 8 ∧ popped.cmp.ring.length = 8 ∧ popped.cmp.held = none := by decide
theorem test_hyp_ControlResetIsHeldPending :
    State.reset.undisturbed = true := by decide
/-- Each row of the table of R199: the phases that hold the reset back, and those that are its points. -/
theorem test_hyp_ControlResetIsHeldPending_points :
    (∀ p ∈ [Phase.headerData, .checkSpace, .lcf, .drain, .trailer .void, .trailer .commit, .record],
      (inPhase .write p).oc = .active (act .write p) ∧ (inPhase .write p).resetPoint = false) ∧
      (∀ p ∈ [Phase.trailerCheck, .rewriteGap, .acceptance, .ramp, .leader, .guard, .erase, .search, .turnStop, .chained,
          .turnRamp, .turnPass],
        (inPhase .write p).fr.record = none ∧ (inPhase .write p).resetPoint = true) ∧
      turnWithRecord.resetPoint = false ∧ (running .stopping .stopping movingLines).resetPoint = true ∧
      (finishing true).resetPoint = true ∧ State.reset.resetPoint = true := by decide
/-- The place of a posted record: the ring one below its depth, and full. -/
theorem test_hyp_PopTakesTheOldestCompletion_place :
    (full.cmp.ring.drop 1).length < 8 ∧ 8 ≤ full.cmp.ring.length := by decide
theorem test_hyp_ClearAttentionClearsOneUnit :
    State.reset.undisturbed = true := by decide
theorem test_hyp_IntenSetsTheEnablesAndIntFollows :
    State.reset.undisturbed = true := by decide
theorem test_hyp_CatalogueAccessesTakeASnapshot :
    State.reset.undisturbed = true := by decide
/-- A snapshot at its limits with an entry of the longest record, and one with none. -/
theorem test_hyp_CatalogueAccessesTakeASnapshot_entry :
    let e := { record 7 .commit with length := 4096 }
    let x : Snapshot := { state := .anchored, count := 32, position := 32, nextOrdinal := 8, entry := some e }
    let s := { State.reset with rc := { RecordCatalogue.reset with snapshot := x } }
    (s.undisturbed = true ∧ s.rc.snapshot.entry = some e ∧ e.length ≤ 4096 ∧ x.count ≤ 32 ∧ x.position ≤ 32) ∧
      State.reset.rc.snapshot.entry = none := by decide
/-- The fill and the stream queue at their capacity. -/
theorem test_hyp_BufferSelectAndDmaSourceSetDrq_levels :
    (pointerAt 0 .off).undisturbed = true ∧ (pointerAt 0 .off).bu.selected.fill = 4096 ∧
      (streaming 64).undisturbed = true ∧ (streaming 64).bu.stream.length ≤ 64 := by decide
theorem test_hyp_BufferSelectAndDmaSourceSetDrq :
    State.reset.undisturbed = true := by decide
theorem test_hyp_LiveLinesFollowWithNoOtherEffect :
    State.reset.undisturbed = true := by decide
theorem test_hyp_StagingRegistersHoldTheirFields :
    State.reset.undisturbed = true ∧ wordOffset 0x04 = 0x04 ∧ wordOffset 0x07 = 0x06 ∧ wordOffset 0x08 = 0x08 ∧
      wordOffset 0x0B = 0x0A := by decide
theorem test_hyp_DisregardedWritesChangeNothing :
    State.reset.undisturbed = true ∧ wordOffset 0x01 = 0x00 ∧ wordOffset 0x10 = 0x10 ∧ wordOffset 0x1F = 0x1E ∧
      wordOffset 0x29 = 0x28 ∧ wordOffset 0x2E = 0x2E ∧ wordOffset 0x3F = 0x3E ∧ wordOffset 0x02 = 0x02 ∧
      (0x0038 : Word).extractLsb' 0 3 = 0#3 ∧ (0x003E : Word).extractLsb' 0 3 = 6#3 ∧
      (0x0007 : Word).extractLsb' 0 3 = 7#3 := by decide
/-- The discard count at its limit, 15. -/
theorem test_hyp_StatusReadReturnsAndClears :
    manyDiscards.undisturbed = true ∧ manyDiscards.hw.discards ≤ 15 := by decide
theorem test_hyp_BufptrTakesValuesUpTo4096 :
    State.reset.undisturbed = true ∧ (4096 : Word).toNat ≤ 4096 ∧ 4096 < (4097 : Word).toNat := by decide
theorem test_hyp_PortWriteStoresTwoBytes :
    (∀ p ∈ [0, 4095, 4096], (pointerAt p .bufferIn).undisturbed = true ∧
        (pointerAt p .bufferIn).bu.selected.contents.wf = true ∧ (pointerAt p .bufferIn).bu.dma = .bufferIn) ∧
      (pointerAt 4095 .bufferIn).bu.selected.committed = false ∧ (pointerAt 4095 .bufferIn).bu.selected.pointer < 4096 ∧
      4096 ≤ (pointerAt 4096 .bufferIn).bu.selected.pointer ∧ held.bu.selected.committed = true := by decide
theorem test_hyp_PortReadReturnsBytesBelowTheFill :
    (∀ p ∈ [0, 4095, 4096], (pointerAt p .bufferOut).undisturbed = true ∧
        (pointerAt p .bufferOut).bu.dma = .bufferOut) ∧
      (pointerAt 4095 .bufferOut).bu.selected.committed = false ∧ (pointerAt 4095 .bufferOut).bu.selected.pointer < 4096 ∧
      4096 ≤ (pointerAt 4096 .bufferOut).bu.selected.pointer ∧ held.bu.selected.committed = true := by decide
theorem test_hyp_PushIsAcceptedOrRefused :
    (streaming 62).undisturbed = true ∧ (streaming 62).bu.dma = .stream ∧ (streaming 62).bu.stream.length + 2 ≤ 64 ∧
      (streaming 62).oc = .active (act .writeStream .guard) ∧ (streaming 62).bu.delivery = false ∧
      (streaming 63).undisturbed = true ∧ 64 < (streaming 63).bu.stream.length + 2 := by decide
theorem test_hyp_PullTakesTheOldestBytes :
    (streaming 2).undisturbed = true ∧ (streaming 2).bu.dma = .stream ∧ (streaming 2).bu.stream = 0 :: 0 :: [] ∧
      (streaming 1).undisturbed = true ∧ (streaming 1).bu.stream = [0] ∧ (streaming 0).undisturbed = true ∧
      (streaming 0).bu.stream = [] := by decide
theorem test_hyp_DackReachesTheNamedPort :
    (pointerAt 0 .bufferIn).undisturbed = true ∧ (pointerAt 0 .bufferIn).bu.dma = .bufferIn ∧
      (pointerAt 0 .bufferOut).bu.dma = .bufferOut ∧ (pointerAt 0 .bufferOut).undisturbed = true ∧
      (streaming 2).undisturbed = true ∧ (streaming 2).bu.dma = .stream ∧ State.reset.undisturbed = true ∧
      State.reset.bu.dma = .off := by decide
theorem test_hyp_HeadWordsShowTheOldestRecord :
    full.hw.resetInput = false ∧ full.cmp.ring = completion 0 :: full.cmp.ring.drop 1 ∧ full.cmp.ring.length ≤ 8 ∧
      State.reset.hw.resetInput = false ∧ State.reset.cmp.ring = [] := by decide
/-- Every count at its limit. -/
theorem test_hyp_HeadWordsShowTheOldestRecord_limits :
    let r := { completion 1 with
      byteCount := 4096, copies := 7, passed := 4095, corrected := 255, marginal := 255, skew := 15,
      failure := some .overflow }
    let s := State.reset.setCmp { ring := [r], held := none };
    s.hw.resetInput = false ∧ s.cmp.ring = r :: [] ∧ r.byteCount ≤ 4096 ∧ r.copies ≤ 7 ∧ r.passed ≤ 4095 ∧
      r.corrected ≤ 255 ∧ r.marginal ≤ 255 ∧ r.skew ≤ 15 := by decide
theorem test_hyp_ResetInputReturnsEveryBlock :
    inReset.hw.resetInput = true ∧ (running .stopping .stopping movingLines).tlc.selected.isSome = true ∧
      Lines.low.present = false ∧ readyLines.present = true ∧ readyLines.ready = true ∧ readyLines.rewinding = false := by decide
theorem test_hyp_PresentAndReadyMoveAUnit_rises :
    (∀ r ∈ [false, true],
      ((withUnit { readyLines with ready := false, rewinding := r } .notReady State.reset).undisturbed = true ∧
        (withUnit { readyLines with present := false, rewinding := r } .absent State.reset).undisturbed = true)) ∧
      ((withUnit readyLines .notReady State.reset).link 0).state = .notReady ∧
      (State.reset.link 0).lines.present = false ∧ (State.reset.link 0).lines.ready = false := by decide
theorem test_hyp_PresentAndReadyMoveAUnit_falls :
    (∀ st ∈ [UnitState.idle, .rewinding, .unloading, .notReady],
      (withUnit readyLines st State.reset).undisturbed = true ∧
        ((withUnit readyLines st State.reset).link 0).state = st ∧
        ((withUnit readyLines st State.reset).link 0).lines = readyLines ∧
        (withUnit readyLines st State.reset).tlc.selected ≠ some 0) := by decide
theorem test_hyp_LossOfTheSelectedUnitEndsTheOperation :
    (∀ st ∈ [UnitState.idle, .ramping, .runningForward, .runningReverse, .stopping],
      ∀ o ∈ [Operation.active (act .read .search), .finishing { unit := 0, writeClass := true, reverse := false }, .stopping],
      let s := { running o st movingLines with
        tlc := { (running o st movingLines).tlc with request := some .forward }
        fr := { FrameReader.reset with mode := .parse false, record := some { openRecord with received := true } } }
      s.undisturbed = true ∧ s.hw.resetPending = false ∧ s.oc = o ∧ s.tlc.selected = some 0 ∧
        (s.link 0).lines.present = true ∧ (s.link 0).state = st ∧ (s.link 0).lines.ready = true ∧
        (s.link 0).lines.rewinding = false ∧ s.tlc.request = some .forward) := by decide
/-- The same with a CONTROL RESET that waits for a record. -/
theorem test_hyp_LossOfTheSelectedUnitEndsTheOperation_reset :
    busy.undisturbed = true ∧ busy.hw.resetPending = true ∧ busy.oc = .active (act .read .record) ∧
      busy.tlc.selected = some 0 ∧ (busy.link 0).lines = movingLines ∧ (busy.link 0).state = .runningForward ∧
      movingLines.present = true ∧ movingLines.ready = true ∧ movingLines.rewinding = false := by decide
theorem test_hyp_TerminatingReportsEndInAStop :
    (∀ o ∈ [Operation.active (act .write .headerData), .finishing { unit := 0, writeClass := true, reverse := false }],
      let f : State := { writing with oc := o }
      f.undisturbed = true ∧ f.hw.resetPending = false ∧ f.tlc.selected = some 0 ∧ (f.link 0).lines = movingLines ∧
        f.travelsForward 0 = true ∧ f.atSpeedNow 0 = true ∧ f.fw.gate = true ∧ f.fw.watch.isSome = true) ∧
      (∀ o ∈ [Operation.active { act .read .search with reverse := true },
          .finishing { unit := 0, writeClass := false, reverse := true }],
        let r := running o .runningReverse movingLines
        r.undisturbed = true ∧ r.hw.resetPending = false ∧ r.travelsReverse 0 = true ∧ r.tlc.selected = some 0) ∧
      movingLines.present = true ∧ movingLines.loadPoint = false ∧ movingLines.endLine = false ∧
      movingLines.writePermit = true ∧ movingLines.atSpeed = true ∧ movingLines.moving = true ∧
      ramping.undisturbed = true ∧ ramping.tlc.atSpeedTimer = true ∧ accepting.undisturbed = true ∧
      accepting.tlc.acceptanceTimer = true := by decide
/-- In the stop, with the gate still ON and a frame awaited. -/
theorem test_hyp_TerminatingReportsEndInAStop_stopping :
    let s := (running .stopping .stopping movingLines).setFw { FrameWriter.reset with gate := true, watch := some .trailer };
    s.undisturbed = true ∧ s.tlc.selected = some 0 ∧ s.oc = .stopping ∧ (s.link 0).state = .stopping ∧
      (s.link 0).lines = movingLines ∧ s.fw.gate = true ∧ s.fw.watch.isSome = true := by decide
/-- A CONTROL RESET that waits, at each report: a copy in progress under the gate, a record each way, TURN's ramp with a record. -/
theorem test_hyp_TerminatingReportsEndInAStop_reset :
    (∀ x ∈ [(writing, movingLines), (busy, movingLines),
        (running (.active (act .read .record)) .runningReverse movingLines, movingLines),
        ({ rampingFor .locate .reverse with
          oc := .active (act .locate .turnRamp)
          tlc := { (rampingFor .locate .reverse).tlc with acceptanceTimer := true }
          fr := turnWithRecord.fr }, readyLines)],
      let s := x.1.setHw resetDue.hw
      s.undisturbed = true ∧ s.hw.resetPending = true ∧ s.active.isSome = true ∧ s.tlc.selected = some 0 ∧
        (s.link 0).lines = x.2 ∧ (s.link 0).state = (x.1.link 0).state ∧ s.tlc.atSpeedTimer = x.1.tlc.atSpeedTimer) ∧
      (∀ l ∈ [movingLines, readyLines], l.present = true ∧ l.loadPoint = false ∧ l.endLine = false ∧ l.writePermit = true) ∧
      (writing.link 0).state = .runningForward ∧ writing.fw.watch.isSome = true ∧ writing.fw.gate = true := by decide
/-- A copy that the gate drop cuts, the Verify Unit in each state, with a failure and with none. -/
theorem test_hyp_TerminatingReportsEndInAStop_copy :
    (∀ v ∈ [VerifyState.idle, .listening, .trailerCheck], ∀ f ∈ [none, some FailureKind.value],
      let s := { writing with
        fr := { FrameReader.reset with mode := .readback }
        vu := { VerifyUnit.reset with state := v, window := [entry], copyFailure := f, trailerFailure := f } }
      s.undisturbed = true ∧ s.fw.gate = true ∧ s.fr.mode = .readback ∧ s.fw.account = some (account 2 .pending .none) ∧
        (account 2 .pending .none).ended = .inProgress ∧ s.vu.state = v ∧ s.hw.resetPending = false ∧
        (after (exec (.endRise 0) s)).map (fun t => t.cmp.ring.length) = some 1) := by decide
/-- A record open going forward as END rises, and one open in reverse at LOAD POINT. -/
theorem test_hyp_TerminatingReportsEndInAStop_record :
    (∀ rev ∈ [false, true], ∀ got ∈ [false, true],
      let a := { act .read .record with reverse := rev }
      let s := (running (.active a) (if rev then .runningReverse else .runningForward) movingLines).setFr
        { FrameReader.reset with mode := .parse rev, record := some { openRecord with received := got } }
      s.undisturbed = true ∧ s.hw.resetPending = false ∧ s.fw.gate = false ∧ s.fr.run = none ∧ s.fr.record.isSome = true ∧
        a.cmd.code.readClass = true ∧
        (after (exec (if rev then .loadPointRise 0 else .endRise 0) s)).map (fun t => t.cmp.ring.length) = some 1) ∧
      openRecord.header.isSome = true := by decide
/-- A run in progress with a frame being assembled, at each event of R95: END and loss of speed forward, LOAD POINT in reverse. -/
theorem test_hyp_TerminatingReportsEndInAStop_frame :
    (∀ rev ∈ [false, true],
      let s := (running (.active { act .read .record with reverse := rev }) (if rev then .runningReverse else .runningForward)
          movingLines).setFr
        { FrameReader.reset with
          mode := .parse rev, frame := some assembled, run := some (runOf [0x02, 0, 7]), record := some openRecord }
      s.undisturbed = true ∧ s.tlc.selected = some 0 ∧ s.fr.mode = .parse rev ∧ s.fr.frame = some assembled ∧
        assembled.handed = false ∧ s.fr.run.isSome = true ∧ (s.link 0).lines = movingLines) := by decide
theorem test_hyp_EndMarkerWarnsAndEndsASearch :
    (∀ o ∈ [none, some openRecord],
      let s := (running (.active locating) .runningForward movingLines).setFr
        { FrameReader.reset with mode := .parse false, record := o }
      s.undisturbed = true ∧ s.hw.resetPending = false ∧ s.tlc.selected = some 0 ∧ (s.link 0).lines.present = true ∧
        (s.link 0).lines.endMarker = false ∧ s.movesForward 0 = true ∧ s.fr.record = o) ∧
      locating.plan = some .search ∧ locating.phase = .search ∧ writing.movesForward 0 = true ∧
      (act .write .headerData).plan ≠ some .search := by decide
theorem test_hyp_PermitChangeRaisesItsCause :
    (withUnit readyLines .idle State.reset).undisturbed = true ∧ readyLines.present = true ∧
      readyLines.writePermit = !false ∧ (withUnit readyLines .idle State.reset).tlc.selected ≠ some 0 ∧
      (running (.active (act .read .search)) .runningForward movingLines).fw.gate = false := by decide
theorem test_hyp_RewindingRiseAcceptsTheRequest :
    accepting.undisturbed = true ∧ accepting.hw.resetPending = false ∧
      accepting.oc = .active (act .rewind .acceptance) ∧ (accepting.link 0).lines.present = true ∧
      (accepting.link 0).lines.rewinding = false ∧ (accepting.link 0).state = .ramping ∧
      accepting.tlc.request = some .rewind := by decide
theorem test_hyp_RewindingFallEndsTheRewind :
    (∀ lp ∈ [false, true], ∀ st ∈ [UnitState.rewinding, .unloading],
      let s := withUnit { readyLines with rewinding := true, loadPoint := lp } st State.reset
      s.undisturbed = true ∧ (s.link 0).lines.present = true ∧ (s.link 0).lines.rewinding = true ∧
        (s.link 0).lines.ready = true ∧ (s.link 0).state = st ∧ (s.link 0).lines.loadPoint = lp) := by decide
theorem test_hyp_AtSpeedEndsTheRamp :
    (∀ c ∈ [CommandCode.write, .eraseGap, .read], ∀ q ∈ [MotionRequest.forwardWrite, .forward, .reverse],
      let s := rampingFor c q
      s.undisturbed = true ∧ s.oc = .active (act c .ramp) ∧ s.tlc.selected = some 0 ∧
        (s.link 0).lines.present = true ∧ (s.link 0).lines.atSpeed = false ∧ (s.link 0).state = .ramping ∧
        s.tlc.request = some q ∧ s.fr.record = none) ∧
      (let s := { rampingFor .locate .reverse with oc := .active (act .locate .turnRamp) }
       s.undisturbed = true ∧ (act .locate .turnRamp).phase = .turnRamp ∧ (s.link 0).state = .ramping ∧
        s.tlc.request = some .reverse) := by decide
theorem test_hyp_StopsAreCompletedOrFault :
    (∀ o ∈ [Operation.stopping, .active (act .locate .turnStop)], ∀ r ∈ [none, some (runOf [0x3C, 0xC3])],
      let s := { running o .stopping movingLines with
        tlc := { (running o .stopping movingLines).tlc with stopTimer := true }
        fr := { FrameReader.reset with mode := .parse false, run := r, record := some openRecord } }
      s.undisturbed = true ∧ s.tlc.selected = some 0 ∧ (s.link 0).lines.present = true ∧
        (s.link 0).lines.moving = true ∧ (s.link 0).state = .stopping ∧ s.oc = o ∧ s.tlc.stopTimer = true ∧
        s.hw.resetPending = false ∧ s.fr.run = r) ∧ (act .locate .turnStop).cmd.code = .locate := by decide
/-- The same at stop complete and at the stop limit, in STOPPING and in TURN. -/
theorem test_hyp_StopsAreCompletedOrFault_frame :
    (∀ o ∈ [Operation.stopping, .active (act .locate .turnStop)],
      let s := { running o .stopping movingLines with
        tlc := { (running o .stopping movingLines).tlc with stopTimer := true }
        fr := { FrameReader.reset with mode := .parse false, frame := some assembled, run := some (runOf [0x3C]) } }
      s.undisturbed = true ∧ s.tlc.selected = some 0 ∧ s.oc = o ∧ s.tlc.stopTimer = true ∧ s.fr.frame = some assembled ∧
        s.fr.run.isSome = true) ∧ assembled.handed = false := by decide
theorem test_hyp_EchoAnswersTheAwaitedFrame :
    State.reset.undisturbed = true ∧ State.reset.tlc.selected ≠ some 0 ∧
      (∀ r ∈ [none, some FrameRole.header, some .lcf],
        let s := (inPhase .write .lcf).setFw { FrameWriter.reset with watch := r }
        s.undisturbed = true ∧ s.tlc.selected = some 0 ∧ s.fw.watch = r ∧ s.oc = .active (act .write .lcf)) ∧
      (act .write .lcf).skipped = false := by decide
/-- A copy whose verify pass was skipped, by each cut, with and without an abort mark. -/
theorem test_hyp_EchoAnswersTheAwaitedFrame_skipped :
    (∀ c ∈ [CutCause.underrun, .abort], ∀ m ∈ [false, true],
      let a := { act .writeStream .lcf with skipped := true, abortMark := m }
      let s := (running (.active a) .runningForward movingLines).setFw
        { FrameWriter.reset with watch := some .lcf, account := some { account 4 .written .none with cut := some c } }
      s.undisturbed = true ∧ s.tlc.selected = some 0 ∧ s.fw.watch = some .lcf ∧ s.oc = .active a ∧ a.skipped = true ∧
        s.fw.account = some { account 4 .written .none with cut := some c }) := by decide
/-- The last tick but one of FINISH; H1 and the one data frame of a copy. -/
theorem test_hyp_TicksCountAndWriteTheHeaderRun :
    let f := (finishing true).setTimer { phase := some 15, target := some 16, deadline := none };
      f.undisturbed = true ∧ f.tlc.selected = some 0 ∧ f.fr = .reset ∧ f.fw.watch = none ∧ f.timer.deadline = none ∧
        f.timer.phase = some 15 ∧
        (∀ n ∈ [1, 3],
          let s := (inPhase .write .headerData).setFw
            { FrameWriter.reset with account := some (account n .pending .none) }
          s.undisturbed = true ∧ s.tlc.selected = some 0 ∧ s.fr = .reset ∧ s.fw.watch = none ∧
            s.timer.deadline = none ∧ s.oc = .active (act .write .headerData)) := by decide
/-- Every count one below its limit, in each mode that counts; the deadline in its two phases; RAMP and the chain. -/
theorem test_hyp_TicksCountAndWriteTheHeaderRun_counts :
    (∀ o ∈ [Operation.stopping, .finishing { unit := 0, writeClass := false, reverse := false },
        .active (act .read .search), .active (act .space .record), .active (act .write .guard)],
      let s := { running o .runningForward movingLines with
        timer := { phase := some 3, target := some 4, deadline := none }
        fr :=
          { FrameReader.reset with
            mode := .parse false, frame := some { assembled with age := 0 }, run := some (runOf [0x02]), runCount := 1
            record := some openRecord, closeCount := 95, search := some 3999 } }
      s.undisturbed = true ∧ s.tlc.selected = some 0 ∧ s.fw.watch = none ∧ s.oc = o ∧ s.timer.target = some 4 ∧
        (s.fr.frame.map Assembly.age) = some 0 ∧ s.fr.runCount < 2 ∧ s.fr.closeCount < 96 ∧ s.fr.search = some 3999) ∧
      (∀ p ∈ [Phase.drain, .trailerCheck],
        let s := (inPhase .write p).setTimer { phase := some 0, target := none, deadline := some { count := 35, target := 36 } }
        s.undisturbed = true ∧ s.fr = .reset ∧ s.fw.watch = none ∧
          s.timer.deadline = some { count := 35, target := 36 } ∧ s.oc = .active (act .write p)) ∧
      (∀ c ∈ [CommandCode.write, .read, .eraseGap], ∀ p ∈ [Phase.ramp, .chained],
        let s := inPhase c p
        s.undisturbed = true ∧ s.tlc.selected = some 0 ∧ s.fr = .reset ∧ s.fw.watch = none ∧ s.timer.deadline = none ∧
          s.fr.mode = .idle ∧ s.oc = .active (act c p)) := by decide
/-- A data frame due from the stream queue, with a byte and with none; the second frames of the two trailers. -/
theorem test_hyp_TicksCountAndWriteTheHeaderRun_stream :
    (∀ q ∈ [[], [0x55#8]],
      let s := { inPhase .writeStream .headerData with
        fw := { FrameWriter.reset with account := some { account 3 .pending .none with source := .stream } }
        bu := { BufferUnit.reset with stream := q } }
      s.undisturbed = true ∧ s.tlc.selected = some 0 ∧ s.fr = .reset ∧ s.fw.watch = none ∧
        s.timer.deadline = none ∧ s.bu.stream = q) ∧
      (∀ k ∈ [TrailerKind.commit, .void], ∀ abort ∈ [false, true], ∀ retry ∈ [1, 2],
        let a := { act .write (.trailer k) with
          abortMark := abort, voidOutcome := .verifyFailed, cmd := { cmd .write with retry := retry } }
        let s := (running (.active a) .runningForward movingLines).setFw
          { FrameWriter.reset with account := some (account 4 .echoed (.first k)) }
        s.undisturbed = true ∧ s.tlc.selected = some 0 ∧ s.fr = .reset ∧ s.fw.watch = none ∧
          s.timer.deadline = none ∧ s.hw.resetPending = false ∧ s.oc = .active a ∧ a.skipped = false ∧
          a.copyCounter = 1) := by decide
/-- A CONTROL RESET that waits for the second frame of a trailer. -/
theorem test_hyp_TicksCountAndWriteTheHeaderRun_reset :
    (∀ k ∈ [TrailerKind.commit, .void],
      let s := { inPhase .write (.trailer k) with
        hw := resetDue.hw
        fw := { FrameWriter.reset with gate := true, account := some (account 4 .echoed (.first k)) } }
      s.undisturbed = true ∧ s.tlc.selected = some 0 ∧ s.hw.resetPending = true ∧ s.fr = .reset ∧ s.fw.watch = none ∧
        s.timer.deadline = none ∧ s.oc = .active (act .write (.trailer k)) ∧
        (account 4 .echoed (.first k)).ended = .inProgress) := by decide
theorem test_hyp_FrameSelectionFollowsTheVerticalChecks :
    passesChecks (frameOf 0x3C) = true ∧ (frameOf 0x3C).getLsbD (9 : Lane).val = true ∧
      passesChecks (frameOf 0x3C &&& ~~~laneBit 9) = false := by decide
theorem test_hyp_ClosedFrameIsHandedOn :
    (∀ v ∈ [VerifyState.idle, .listening],
      let s := { inPhase .write .drain with
        fr := { FrameReader.reset with mode := .readback, frame := some assembled }
        vu := { VerifyUnit.reset with state := v, window := [entry, entry] } }
      s.undisturbed = true ∧ s.fr.frame = some assembled ∧ s.vu.state = v ∧ s.vu.window = entry :: entry :: [] ∧
        s.oc = .active (act .write .drain)) ∧
      (State.reset.setFr
        { FrameReader.reset with mode := .parse true, frame := some assembled, run := some (runOf [0xC3]) }).undisturbed = true ∧
      (runOf [0xC3]).eligible = false := by decide
/-- The last entry of a copy and of a trailer, in its state, matching and not. -/
theorem test_hyp_ClosedFrameIsHandedOn_verdict :
    (∀ x ∈ [(VerifyState.listening, FrameRole.lcf), (.trailerCheck, .trailer)], ∀ v ∈ [frameOf 0x3C, frameOf 0x3D],
      let e := { value := v, role := x.2, index := 1 }
      let s := { inPhase .write .drain with
        fr := { FrameReader.reset with mode := .readback, frame := some assembled }
        vu := { VerifyUnit.reset with state := x.1, window := [e] } }
      s.undisturbed = true ∧ s.fr.frame = some assembled ∧ s.vu.state = x.1 ∧ s.vu.window = [e] ∧
        s.hw.resetPending = false ∧ s.oc = .active (act .write .drain) ∧ (act .write .drain).abortMark = false ∧
        judge false (selectFrame assembled) e = (if v = frameOf 0x3C then none else some .value)) := by decide
/-- After the blank-LCF notice the removal of the last data frame empties the window; an account for the trailer verdict. -/
theorem test_hyp_ClosedFrameIsHandedOn_blank :
    let s := { inPhase .write .drain with
      fr := { FrameReader.reset with mode := .readback, frame := some assembled }
      fw := { FrameWriter.reset with account := some (account 4 .blank .none) }
      vu := { VerifyUnit.reset with state := .listening, window := [entry], blankNotice := true } }
    s.undisturbed = true ∧ s.fr.frame = some assembled ∧ s.vu.state = .listening ∧ s.vu.window = [entry] ∧
      entry.role = .data ∧ s.vu.blankNotice = true ∧ s.hw.resetPending = false ∧ s.oc = .active (act .write .drain) ∧
      (act .write .drain).abortMark = false ∧ s.fw.account.isSome = true := by decide
/-- An EXTRA in both states. -/
theorem test_hyp_ClosedFrameIsHandedOn_extra :
    (∀ v ∈ [VerifyState.listening, .trailerCheck],
      let s := { inPhase .write .drain with
        fr := { FrameReader.reset with mode := .readback, frame := some assembled }
        vu := { VerifyUnit.reset with state := v } }
      s.undisturbed = true ∧ s.vu.window = [] ∧ s.vu.state = v) := by decide
/-- In TRAILER CHECK the first of two entries, and one that is no second frame; in LISTENING a removal that empties the window. -/
theorem test_hyp_ClosedFrameIsHandedOn_first :
    (∀ x ∈ [(VerifyState.trailerCheck, [{ entry with role := .trailer, index := 0 }, { entry with role := .trailer, index := 1 }]),
        (.trailerCheck, [{ entry with role := .trailer, index := 0 }]), (.listening, [entry])],
      let s := { inPhase .write .trailerCheck with
        fr := { FrameReader.reset with mode := .readback, frame := some assembled }
        vu := { VerifyUnit.reset with state := x.1, window := x.2 } }
      s.undisturbed = true ∧ s.fr.frame = some assembled ∧ s.oc = .active (act .write .trailerCheck) ∧ s.vu.state = x.1 ∧
        s.vu.window = x.2 ∧ s.vu.blankNotice = false) := by decide
/-- The verdict on a copy with an abort mark, and with a CONTROL RESET that waits. -/
theorem test_hyp_ClosedFrameIsHandedOn_abort :
    (∀ m ∈ [false, true], ∀ b ∈ [false, true],
      let a := { act .write .drain with abortMark := m }
      let s := { running (.active a) .runningForward movingLines with
        hw := { HostWindow.reset with resetPending := b }
        fr := { FrameReader.reset with mode := .readback, frame := some assembled }
        vu := { VerifyUnit.reset with state := .listening, window := [{ entry with role := .lcf }] } }
      s.undisturbed = true ∧ s.fr.frame = some assembled ∧ s.oc = .active a ∧ s.vu.state = .listening ∧
        s.vu.window = [{ entry with role := .lcf }] ∧ s.hw.resetPending = b) := by decide
/-- The counts of the Verify Unit at their limits. -/
theorem test_hyp_ClosedFrameIsHandedOn_counts :
    let v := { VerifyUnit.reset with corrected := 255, marginal := 255, skew := 15 }
    v.corrected ≤ 255 ∧ v.marginal ≤ 255 ∧ v.skew ≤ 15 := by decide
/-- Each row of Table 6-2. -/
theorem test_hyp_ClosedFrameIsHandedOn_table :
    (∀ st ∈ [FrameStatus.unreadable, .marginal, .clean, .corrected], ∀ r ∈ [FrameRole.lcf, .header, .data, .trailer],
      let f : ReadFrame := { selectFrame assembled with status := st, skew := true }
      f.status = st ∧ f.value = frameOf 0x3C ∧ f.strong = frameOf 0x3C ∧ f.value ≠ frameOf 0x3D ∧
        { entry with role := r }.value = frameOf 0x3C) := by decide
/-- Byte 0 of a READ with COUNT 1, byte 1 beyond it, delivery stopped; a READ STREAM with room and with none. -/
theorem test_hyp_ClosedFrameIsHandedOn_delivery :
    (∀ c ∈ [CommandCode.read, .readStream], ∀ n ∈ [3, 4], ∀ stopped ∈ [false, true], ∀ q ∈ [63, 64],
      let r := { runOf (List.replicate n 0x02) with eligible := true }
      let s := { inPhase c .search with
        fr := { FrameReader.reset with
          mode := .parse false, frame := some assembled, run := some r,
          account := { ReadAccount.empty with stopped := stopped } }
        bu := { BufferUnit.reset with stream := List.replicate q 0 } }
      s.undisturbed = true ∧ s.fr.frame = some assembled ∧ s.fr.run = some r ∧ r.eligible = true ∧ 3 ≤ r.length ∧
        s.oc = .active (act c .search) ∧ (act c .search).cmd.count = 1 ∧ r.length - 3 = n - 3 ∧
        s.fr.account.stopped = stopped ∧ s.bu.stream.length = q ∧ (s.bu.buffer 0).fill < 4096 ∧
        (s.bu.buffer 0).contents.wf = true) := by decide
/-- The close of a frame that an event of R95 has handed on. -/
theorem test_hyp_ClosedFrameIsHandedOn_handed :
    let s := (inPhase .space .search).setFr
      { FrameReader.reset with mode := .parse false, frame := some { assembled with handed := true } };
    s.undisturbed = true ∧ s.fr.mode = .parse false ∧ s.fr.frame = some { assembled with handed := true } := by decide
theorem test_hyp_LanePulsesAssembleAFrame :
    (∀ m ∈ [ReaderMode.idle, .readback, .parse false],
      let s := (inPhase .write .drain).setFr { FrameReader.reset with mode := m }
      s.undisturbed = true ∧ s.tlc.selected = some 0 ∧ s.fr.frame = none ∧ s.fr.weakStart = false) ∧
      (∀ b ∈ [true, false],
        let s := (inPhase .write .drain).setFr
          { FrameReader.reset with mode := .readback, frame := some { assembled with sampling := b } }
        s.undisturbed = true ∧ s.tlc.selected = some 0 ∧ s.fr.mode ≠ .idle) := by decide
/-- A frame that opens in PARSE: with a run and with none, eligible and not. -/
theorem test_hyp_LanePulsesAssembleAFrame_parse :
    (∀ rev ∈ [false, true], ∀ c ∈ [CommandCode.read, .space], ∀ r ∈ [none, some (runOf [0x02])],
      ∀ o ∈ [none, some openRecord, some { openRecord with received := true }],
      let s := (inPhase c .search).setFr
        { FrameReader.reset with
          mode := .parse rev, run := r, record := o, account := { ReadAccount.empty with receiving := true } }
      s.undisturbed = true ∧ s.tlc.selected = some 0 ∧ s.fr.mode = .parse rev ∧ s.fr.frame = none ∧ s.fr.run = r ∧
        s.fr.record = o ∧ s.fr.account.receiving = true) := by decide
theorem test_hyp_RunBreakOpensAndClosesRecords :
    let g := atBreak (runOf [0x02, 0, 7]) none (inPhase .space .search)
      let f := atBreak (runOf [0x3C, 0xC3]) (some openRecord) (finishing false)
      let a := atBreak (runOf [0x3C, 0xC3]) (some openRecord) (inPhase .space .record)
      g.undisturbed = true ∧ g.hw.resetPending = false ∧ g.fr.mode = .parse false ∧ 2 ≤ g.fr.runCount ∧
        g.fr.frame = none ∧ g.fr.record = none ∧ 3 ≤ (runOf [0x02, 0, 7]).length ∧ g.fr.manner = .pass ∧
        f.undisturbed = true ∧ f.tlc.selected = some 0 ∧ (runOf [0x3C, 0xC3]).length = 2 ∧
        a.undisturbed = true ∧ a.oc = .active (act .space .record) ∧ (act .space .record).cmd.count ≤ 0 + 1 ∧
        (runOf [0x3C, 0xC3]).trailerPattern false = some .commit ∧
        ((runOf [0x02, 0, 7, 0x55]).decodeHeader false).kind = .data := by decide
/-- A header run read each way, good and with an unassigned bit in H0; the trailers read each way. -/
theorem test_hyp_RunBreakOpensAndClosesRecords_header :
    (∀ b ∈ [0x02#8, 0x12],
      ((runOf [b, 0, 7, 0x55]).first.map ReadFrame.value) = [frameOf b, frameOf 0, frameOf 7] ∧
        ((runOf [0x55, 7, 0, b]).last.map ReadFrame.value) = [frameOf b, frameOf 0, frameOf 7]) := by decide
theorem test_hyp_RunBreakOpensAndClosesRecords_bad_header :
    ((runOf [0x12, 0, 7, 0x55]).decodeHeader false).ident = none := by decide
theorem test_hyp_RunBreakOpensAndClosesRecords_trailer :
    (runOf [0x66, 0x99]).trailerPattern false = some .void ∧ (runOf [0x99, 0x66]).trailerPattern true = some .void := by decide
/-- Check manner going forward: the opening, the LCF, a fragment, and each close of a record received and not, with an abort mark and
with a CONTROL RESET that waits. -/
theorem test_hyp_RunBreakOpensAndClosesRecords_check :
    (∀ x ∈ [(CommandCode.read, false, false), (.read, true, false), (.readStream, false, true)],
      ∀ l ∈ [[0x02, 0, 8], [0x3C, 0xC3], [0x66, 0x99], [0x06#8]],
      ∀ o ∈ [none, some openRecord, some { openRecord with received := true, lcf := false }],
      let a := { act x.1 (if o.isSome then .record else .search) with abortMark := x.2.1 }
      let r := runOf l
      let s := { running (.active a) .runningForward movingLines with
        hw := { HostWindow.reset with resetPending := x.2.2 && o.isSome }
        fr :=
          { FrameReader.reset with
            mode := .parse false, manner := .check, run := some r, runCount := 2, record := o, acc := frameOf 0x01 } }
      s.undisturbed = true ∧ s.fr.run = some r ∧ s.fr.frame = none ∧ s.fr.record = o ∧ r.length = l.length ∧
        s.oc = .active a ∧ s.tlc.selected = some 0 ∧ s.hw.resetPending = (x.2.2 && o.isSome)) := by decide
/-- A record open in RAMP, received and not, at its trailer, at the next header run and, in reverse, at its header run. -/
theorem test_hyp_RunBreakOpensAndClosesRecords_ramp :
    (∀ x ∈ [(CommandCode.read, false, true, [0x3C, 0xC3]), (.read, false, true, [0x66, 0x99]), (.readStream, false, false, [0x02, 0, 8]),
        (.space, false, false, [0x3C, 0xC3]), (.locate, false, false, [0x02, 0, 8]), (.space, true, false, [7, 0, 0x02])],
      let a := { act x.1 .ramp with plan := some .search }
      let r := runOf x.2.2.2
      let o := { openRecord with received := x.2.2.1, header := if x.2.1 then none else openRecord.header }
      let s := (running (.active a) .ramping movingLines).setFr
        { FrameReader.reset with mode := .parse x.2.1, run := some r, runCount := 2, record := some o }
      s.undisturbed = true ∧ s.fr.run = some r ∧ s.fr.frame = none ∧ s.fr.record = some o ∧ r.length = x.2.2.2.length ∧
        s.oc = .active a ∧ s.tlc.selected = some 0 ∧ s.hw.resetPending = false ∧ s.fr.manner = .pass ∧
        (s.link 0).state = .ramping ∧ (s.link 0).lines.moving = true) := by decide
/-- In reverse with a command in force: an LCF, a trailer and a two-frame fragment, in GAP and with a record open, with an abort mark and
with a CONTROL RESET that waits. -/
theorem test_hyp_RunBreakOpensAndClosesRecords_reverse_active :
    (∀ p ∈ [Phase.search, .record, .turnPass, .turnRamp], ∀ l ∈ [[0xC3, 0x3C], [0x3C, 0xC3], [0x06#8]],
      ∀ x ∈ [(false, false), (true, false), (false, true)],
      let a := { act .locate p with reverse := true, abortMark := x.1 }
      let r := runOf l
      let o := if p = .search then none else some { openRecord with header := none }
      let s := { running (.active a) .runningReverse movingLines with
        hw := { HostWindow.reset with resetPending := x.2 && o.isSome }
        fr := { FrameReader.reset with mode := .parse true, run := some r, runCount := 2, record := o } }
      s.undisturbed = true ∧ s.fr.manner = .pass ∧ s.fr.record = o ∧ r.length = l.length ∧ s.oc = .active a ∧
        s.hw.resetPending = (x.2 && o.isSome)) := by decide
/-- One-frame runs, with a record open and with none, forward and in reverse. -/
theorem test_hyp_RunBreakOpensAndClosesRecords_one :
    (∀ rev ∈ [false, true], ∀ o ∈ [none, some openRecord, some { openRecord with lcf := false }],
      ∀ op ∈ [Operation.active (act .space .search), .active (act .space .record),
        .finishing { unit := 0, writeClass := false, reverse := rev }],
      let r := runOf [0x06]
      let s := (running op .runningForward movingLines).setFr
        { FrameReader.reset with mode := .parse rev, run := some r, runCount := 2, record := o }
      s.undisturbed = true ∧ s.hw.resetPending = false ∧ s.fr.manner = .pass ∧ s.fr.record = o ∧ r.length = 1 ∧
        r.first = [selectFrame
          { strong := frameOf 0x06, weak := frameOf 0x06, sampling := false, skew := false, age := 2, handed := false }]) := by
  decide
/-- The close of a received record: each trailer, good and bad, each mark of the record. -/
theorem test_hyp_RunBreakOpensAndClosesRecords_received :
    (∀ c ∈ [CommandCode.read, .readStream],
      ∀ x ∈ [([0x3C, 0xC3], Trailer.commit), ([0x66, 0x99], .void), ([0x3C, 0x99], .none)],
      ∀ acc ∈ [0, frameOf 0x01], ∀ lost ∈ [false, true], ∀ voids ∈ [6, 7],
      let o := { openRecord with received := true, overrun := lost, lengthExcess := lost }
      let r := runOf x.1
      let s := (inPhase c .record).setFr
        { FrameReader.reset with
          mode := .parse false, manner := .check, run := some r, runCount := 2, record := some o, acc := acc
          account := { ReadAccount.empty with voids := voids, receiving := true } }
      s.undisturbed = true ∧ s.hw.resetPending = false ∧ s.fr.record = some o ∧ o.header.isSome = true ∧
        r.length = 2 ∧ s.tlc.selected = some 0 ∧ s.oc = .active (act c .record) ∧
        trailerOf (r.trailerPattern false) = x.2 ∧ s.fr.acc = acc ∧ s.fr.account.voids = voids) := by decide
/-- A two-frame run in reverse, with its pattern and without, and a header run that ends a SPACE. -/
theorem test_hyp_RunBreakOpensAndClosesRecords_reverse :
    (∀ x ∈ [([0xC3, 0x3C], some TrailerKind.commit), ([0x3C, 0xC3], none), ([0x55, 7, 0, 0x02], none)],
      ∀ o ∈ [none, some { openRecord with header := none, trailer := some .commit }],
      ∀ op ∈ [Operation.active (act .space .record), .finishing { unit := 0, writeClass := false, reverse := true }],
      let r := runOf x.1
      let s := (running op .runningReverse movingLines).setFr
        { FrameReader.reset with mode := .parse true, run := some r, runCount := 2, record := o }
      s.undisturbed = true ∧ s.hw.resetPending = false ∧ s.tlc.selected = some 0 ∧ s.fr.manner = .pass ∧
        s.fr.record = o ∧ r.trailerPattern true = x.2 ∧ r.length = x.1.length) ∧
      ((runOf [0x55, 7, 0, 0x02]).decodeHeader true).kind = .data ∧ (act .space .record).cmd.count ≤ 0 + 1 := by decide
/-- Each closing of a record in force, forward by a trailer and by a header run and in reverse by a header run: a command that counts,
a plan, a search with its target and without, the record of TURN, an abort mark, a CONTROL RESET pending. -/
theorem test_hyp_RunBreakOpensAndClosesRecords_active :
    (∀ x ∈ [(false, [0x3C, 0xC3]), (false, [0x66, 0x99]), (false, [0x02, 0, 8]), (true, [7, 0, 0x02])],
      ∀ c ∈ [CommandCode.space, .spaceMarks, .locate, .read], ∀ p ∈ [Phase.record, .turnPass], ∀ b ∈ [false, true],
      let a := { act c p with abortMark := b }
      let r := runOf x.2
      let s := { running (.active a) .runningForward movingLines with
        hw := { HostWindow.reset with resetPending := b }
        fr :=
          { FrameReader.reset with
            mode := .parse x.1, run := some r, runCount := 2
            record := some (if x.1 then { openRecord with header := none } else openRecord) } }
      s.undisturbed = true ∧ s.fr.run = some r ∧ s.fr.frame = none ∧ s.hw.resetPending = b ∧ s.oc = .active a ∧
        s.fr.manner = .pass ∧ s.tlc.selected = some 0 ∧ r.length = x.2.length ∧ (s.link 0).lines.moving = true) ∧
      (openRecord.header.map fun h => (h.kind, h.ident.map Ident.ordinal)) = some (.data, some 7) := by decide
/-- The targets and the counts of a LOCATE and of a SPACE MARKS at the close of a record of ordinal 7, and a mark record. -/
theorem test_hyp_RunBreakOpensAndClosesRecords_counts :
    (∀ q ∈ [Plan.space 1 false, .space 2 false, .search], ∀ n ∈ [1, 2],
      let a := { act .locate .record with cmd := { cmd .locate with arg := 7, count := n }, plan := some q }
      let s := running (.active a) .runningForward movingLines
      s.undisturbed = true ∧ s.oc = .active a ∧ a.abortMark = false ∧ a.plan = some q ∧ a.cmd.count = n ∧ a.passed = 0 ∧
        a.endRisen = false) ∧
      (act .spaceMarks .record).marks = 0 := by decide
theorem test_hyp_RunBreakOpensAndClosesRecords_mark :
    ((runOf [0x05, 0, 7]).decodeHeader false).kind = .mark := by decide
theorem test_hyp_CloseLimitClosesUnsealed :
    (∀ rev ∈ [false, true], ∀ x ∈ [(none, 96, 0), (some (runOf [0x06]), 97, 1), (some (runOf [0x02, 0, 7]), 96, 2),
        (some (runOf [0x02, 0, 7]), 97, 2), (some (runOf [0x02, 0, 7]), 96, 1)],
      let s := (finishing false).setFr
        { FrameReader.reset with
          mode := .parse rev, record := some openRecord, run := x.1, closeCount := x.2.1, runCount := x.2.2 }
      s.undisturbed = true ∧ s.tlc.selected = some 0 ∧ s.fr.record = some openRecord ∧ 96 ≤ s.fr.closeCount ∧
        s.fr.manner = .pass ∧ s.fr.mode = .parse rev ∧ s.fr.run = x.1) ∧ openRecord.header.isSome = true ∧
      (runOf [0x06]).length < 3 ∧ 3 ≤ (runOf [0x02, 0, 7]).length := by decide
/-- The same with a command in force: counting, receiving, aborted. -/
theorem test_hyp_CloseLimitClosesUnsealed_active :
    (∀ c ∈ [CommandCode.space, .locate, .read], ∀ rev ∈ [false, true], ∀ m ∈ [Manner.check, .pass], ∀ b ∈ [false, true],
      let a := { act c .record with abortMark := b }
      let s := (running (.active a) .runningForward movingLines).setFr
        { FrameReader.reset with
          mode := .parse rev, manner := m, record := some { openRecord with received := true }, closeCount := 96 }
      s.undisturbed = true ∧ s.hw.resetPending = false ∧ s.tlc.selected = some 0 ∧ s.fr.closeCount = 96 ∧
        s.fr.run = none ∧ s.fr.mode = .parse rev ∧ s.fr.manner = m ∧ s.oc = .active a ∧ a.phase = .record) := by decide
/-- A CONTROL RESET that waits, in RECORD each way and in TURN. -/
theorem test_hyp_CloseLimitClosesUnsealed_reset :
    (∀ p ∈ [Phase.record, .turnPass, .turnRamp], ∀ rev ∈ [false, true], ∀ b ∈ [false, true],
      let s := { inPhase .read p with
        hw := { HostWindow.reset with resetPending := b }
        fr := { FrameReader.reset with mode := .parse rev, manner := .check, record := some openRecord, closeCount := 96 } }
      s.undisturbed = true ∧ s.hw.resetPending = b ∧ s.tlc.selected = some 0 ∧ s.fr.closeCount = 96 ∧ s.fr.run = none ∧
        s.oc = .active (act .read p)) := by decide
/-- A record open in RAMP, each way. -/
theorem test_hyp_CloseLimitClosesUnsealed_ramp :
    (∀ c ∈ [CommandCode.read, .space], ∀ rev ∈ [false, true],
      let s := (running (.active (act c .ramp)) .ramping movingLines).setFr
        { FrameReader.reset with mode := .parse rev, record := some { openRecord with received := true }, closeCount := 96 }
      s.undisturbed = true ∧ s.hw.resetPending = false ∧ s.tlc.selected = some 0 ∧ s.fr.closeCount = 96 ∧ s.fr.run = none ∧
        s.oc = .active (act c .ramp) ∧ (act c .ramp).abortMark = false) := by decide
theorem test_hyp_SearchAndEraseLimitsPost :
    let s := (inPhase .read .search).setFr { FrameReader.reset with mode := .parse false, search := some 4000 }
      let e := due 100 (inPhase .eraseGap .erase)
      s.undisturbed = true ∧ s.hw.resetPending = false ∧ s.fr.search = some 4000 ∧ e.undisturbed = true ∧
        e.hw.resetPending = false ∧ e.oc = .active (act .eraseGap .erase) ∧ e.timer.target = some 100 ∧
        e.timer.phase = some 100 := by decide
theorem test_hyp_CopyBeginsWithH0 :
    (∀ p ∈ [(Phase.guard, 60), (.leader, 600), (.rewriteGap, 48)], ∀ c ∈ [CommandCode.write, .eraseGap],
      let s := due p.2 (inPhase c p.1)
      s.undisturbed = true ∧ s.oc = .active (act c p.1) ∧ s.timer.target = some p.2 ∧
        s.timer.phase = some p.2) := by decide
/-- The window one below its capacity, and full; the last copy number. -/
theorem test_hyp_CopyBeginsWithH0_window :
    (List.replicate 63 entry).length < 64 ∧ 64 ≤ (List.replicate 64 entry).length ∧
      (headerByte .mark 7 0x0107 0).extractLsb' 1 3 = 7#3 := by decide
theorem test_hyp_LcfAndTrailerFramesAreWritten :
    (∀ acc ∈ [0, frameOf 0x02],
      let s := { due 4 (inPhase .write .checkSpace) with
        fw := { FrameWriter.reset with account := some (account 4 .pending .none), acc := acc }
        vu := { VerifyUnit.reset with state := .listening, window := [entry] } }
      s.undisturbed = true ∧ s.timer.target = some 4 ∧ s.timer.phase = some 4 ∧ s.fw.acc = acc ∧ s.vu.window ≠ []) ∧
      (∀ k ∈ [TrailerKind.commit, .void],
        let s := (due 4 (inPhase .write (.trailer k))).setFw
          { FrameWriter.reset with account := some (account 4 .echoed .none) }
        s.undisturbed = true ∧ s.oc = .active (act .write (.trailer k)) ∧ s.timer.target = some 4 ∧
          s.timer.phase = some 4) ∧
      (account 4 .echoed .none).trailer = .none ∧ (act .write .checkSpace).skipped = false := by decide
/-- A blank LCF with the window empty, passing and failing, and one after a skipped verify pass. -/
theorem test_hyp_LcfAndTrailerFramesAreWritten_blank :
    (∀ f ∈ [none, some FailureKind.value], ∀ k ∈ [false, true], ∀ m ∈ [false, true],
      let a := { act .write .checkSpace with skipped := k, abortMark := m }
      let x := { account 4 .pending .none with cut := if k then some .underrun else none }
      let s := { due 4 (running (.active a) .runningForward movingLines) with
        fw := { FrameWriter.reset with account := some x }
        vu := { VerifyUnit.reset with state := .listening, copyFailure := f } }
      s.undisturbed = true ∧ s.oc = .active a ∧ s.fw.account = some x ∧ s.timer.target = some 4 ∧
        s.timer.phase = some 4 ∧ s.fw.acc = 0 ∧ s.vu.state = .listening ∧ s.vu.window = [] ∧
        s.hw.resetPending = false ∧ a.skipped = k) := by decide
/-- A CONTROL RESET that waits for the trailer: the blank LCF and the drain deadline. -/
theorem test_hyp_LcfAndTrailerFramesAreWritten_reset :
    let s := { due 4 (inPhase .write .checkSpace) with
      hw := resetDue.hw
      fw := { FrameWriter.reset with account := some (account 4 .pending .none) }
      vu := { VerifyUnit.reset with state := .listening } }
    (s.undisturbed = true ∧ s.hw.resetPending = true ∧ s.timer.phase = some 4 ∧ s.fw.acc = 0 ∧ s.vu.window = [] ∧
      s.vu.state = .listening ∧ (act .write .checkSpace).skipped = false) := by decide
theorem test_hyp_DeadlinesGiveTheVerdict_reset :
    let s := { inPhase .write .drain with
      hw := resetDue.hw
      timer := { phase := some 0, target := none, deadline := some { count := 36, target := 36 } }
      vu := { VerifyUnit.reset with state := .listening } }
    (s.undisturbed = true ∧ s.hw.resetPending = true ∧ s.oc = .active (act .write .drain) ∧
      s.timer.deadline = some { count := 36, target := 36 }) := by decide
theorem test_hyp_DeadlinesGiveTheVerdict :
    (∀ w ∈ [[], [entry]], ∀ v ∈ [VerifyState.listening, .trailerCheck],
      let s := { inPhase .write .drain with
        timer := { phase := some 0, target := none, deadline := some { count := 36, target := 36 } }
        fw := { FrameWriter.reset with account := some (account 4 .echoed (.complete .commit)) }
        vu := { VerifyUnit.reset with state := v, window := w } }
      s.undisturbed = true ∧ s.hw.resetPending = false ∧ s.oc = .active (act .write .drain) ∧ s.vu.state = v ∧
        s.vu.copyFailure = none ∧ s.vu.trailerFailure = none ∧ s.vu.window = w ∧ s.fw.account.isSome = true) := by decide
/-- A fail verdict on record and an abort mark, at the deadlines. -/
theorem test_hyp_DeadlinesGiveTheVerdict_failed :
    let a := { act .write .drain with abortMark := true }
    let s := { running (.active a) .runningForward movingLines with
      timer := { phase := some 0, target := none, deadline := some { count := 36, target := 36 } }
      vu := { VerifyUnit.reset with state := .listening, copyFailure := some .value } }
    (s.undisturbed = true ∧ s.hw.resetPending = false ∧ s.oc = .active a ∧ s.vu.state = .listening ∧
      a.abortMark = true ∧ s.vu.copyFailure = some .value) := by decide
/-- A held completion, and a head that does not fit, at the end of FINISH. -/
theorem test_hyp_EndOfFinishChainsOrStops_refused :
    (∀ q ∈ [[], [cmd .rewind], [{ cmd .write with unit := 1 }]],
      let s := { finishing true with cu := { CommandUnit.reset with queue := q }, cmp := full.cmp }
      s.undisturbed = true ∧ s.cmp.held.isSome = true ∧ s.timer.target = some 16 ∧
        s.timer.phase = some 16) := by decide
theorem test_hyp_EndOfFinishChainsOrStops :
    let s := { finishing true with cu := { CommandUnit.reset with queue := [cmd .write] } };
      s.undisturbed = true ∧ s.oc = .finishing { unit := 0, writeClass := true, reverse := false } ∧
        s.timer.target = some 16 ∧ s.timer.phase = some 16 ∧ (cmd .write).unit = 0 ∧ s.cmp.held = none ∧
        (cmd .write).code.writeClass = true ∧ (s.link 0).lines.endMarker = false ∧
        (finishing false).undisturbed = true ∧ (finishing false).cu.queue = [] ∧ (cmd .rewind).code = .rewind ∧
        (s.link 0).lines.moving = true ∧ (s.link 0).state = .runningForward ∧ s.tlc.selected = some 0 := by decide
/-- A head for the chain of each class, END MARKER high and low, each direction, with a record open and with none. -/
theorem test_hyp_EndOfFinishChainsOrStops_chain :
    (∀ c ∈ [CommandCode.writeMark, .eraseGap, .read, .space], ∀ rev ∈ [false, true], ∀ e ∈ [false, true],
      ∀ o ∈ [none, some openRecord],
      let k := { cmd c with reverse := rev }
      let s := { due 16 (running (.finishing { unit := 0, writeClass := c.writeClass, reverse := rev }) .runningForward
            { movingLines with endMarker := e }) with
        cu := { CommandUnit.reset with queue := [k] }
        fr := { FrameReader.reset with record := o } }
      s.undisturbed = true ∧ s.cu.queue = k :: [] ∧ s.cmp.held = none ∧ s.timer.target = some 16 ∧
        s.timer.phase = some 16 ∧ k.unit = 0 ∧ (c.writeClass = true ∨ (c.readClass = true ∧ c ≠ .locate)) ∧
        k.reverse = rev ∧ (s.link 0).lines.endMarker = e ∧ s.fr.record = o) := by decide
theorem test_hyp_StartFromRestRunsTheChecks :
    (∀ st ∈ [UnitState.absent, .notReady, .rewinding, .unloading, .idle],
      let s := { withUnit readyLines st State.reset with cu := { CommandUnit.reset with queue := [cmd .write] } }
      s.undisturbed = true ∧ s.hw.resetPending = false ∧ s.cu.queue = cmd .write :: [] ∧ s.oc = .idle ∧
        s.cmp.held = none ∧ (s.link 0).state = st ∧ (s.link 0).lines.writePermit = true ∧
        (s.link 0).lines.endLine = false ∧ (s.link 0).lines.loadPoint = false) ∧
      (cmd .write).code.medium = true ∧ (cmd .write).code.writeClass = true := by decide
/-- Each start check failing and passing, at the load point and off it, for each class and both directions. -/
theorem test_hyp_StartFromRestRunsTheChecks_lines :
    (∀ c ∈ [CommandCode.write, .read, .space, .rewind, .unload], ∀ rev ∈ [false, true],
      ∀ l ∈ [readyLines, { readyLines with writePermit := false }, { readyLines with endLine := true },
        { readyLines with loadPoint := true, endMarker := true }],
      let k := { cmd c with reverse := rev }
      let s := { withUnit l .idle State.reset with cu := { CommandUnit.reset with queue := [k] } }
      s.undisturbed = true ∧ s.hw.resetPending = false ∧ s.cu.queue = k :: [] ∧ k.code.medium = true ∧ s.oc = .idle ∧
        s.cmp.held = none ∧ (s.link k.unit).state = .idle ∧ (s.link k.unit).lines = l) := by decide
/-- LOCATE with a plan of zero, of SPACE in each direction, and of a search. -/
theorem test_hyp_StartFromRestRunsTheChecks_plans :
    (∀ x ∈ [(7, 0, Plan.zero), (8, 0, .space 1 false), (7, 2, .space 2 true), (9, 0, .search)],
      let k := { cmd .locate with arg := BitVec.ofNat 16 x.1 }
      let s := (({ withUnit readyLines .idle State.reset with
        cu := { CommandUnit.reset with queue := [k] } } : State).setCatalogue 0 (two x.2.1))
      s.undisturbed = true ∧ s.cu.queue = k :: [] ∧ s.oc = .idle ∧ s.cmp.held = none ∧ (s.link k.unit).state = .idle ∧
        (s.catalogue k.unit).plan k.arg = x.2.2) := by decide
theorem test_hyp_NonMediumCommandsAreCarriedOut :
    (∀ c ∈ [CommandCode.setOrdinal, .loadProfile],
      let s := { State.reset with cu := { CommandUnit.reset with queue := [cmd c] } }
      s.undisturbed = true ∧ s.hw.resetPending = false ∧ s.cu.queue = cmd c :: [] ∧ s.active = none ∧
        s.cmp.held = none) := by decide
theorem test_hyp_RecordsPassedMoveTheCatalogue :
    (∀ p ∈ [0, 31, 32],
      let s := { running .stopping .stopping movingLines with
        rc := { RecordCatalogue.reset with
          catalogues := RecordCatalogue.reset.catalogues.set 0
            { state := .floating, entries := List.replicate 32 (record 7 .commit), position := p } } }
      s.tlc.selected = some 0 ∧ (s.catalogue 0).state ≠ .unknown ∧ (s.catalogue 0).entries.length = 32 ∧
        (s.catalogue 0).position = p) ∧
      State.reset.tlc.selected ≠ some 0 ∧ (State.reset.catalogue 0).state = .unknown ∧
      (record 7 .commit).ident.isSome = true := by decide
/-- A truncation: of an UNKNOWN catalogue, of an ANCHORED one, of a FLOATING one that keeps records and of one that keeps none. -/
theorem test_hyp_RecordsPassedMoveTheCatalogue_truncate :
    Catalogue.unknown.state = .unknown ∧ (two 0).state = .anchored ∧ duplicates.state = .floating ∧
      duplicates.entries.take duplicates.position ≠ [] ∧
      ({ duplicates with position := 0 } : Catalogue).entries.take 0 = [] := by decide
theorem test_hyp_LocatePlansReachACandidate :
    (∀ x ∈ [(0, Plan.zero), (1, .space 1 true), (2, .space 2 true)],
      (two x.1).position ≤ (two x.1).entries.length ∧ (two x.1).plan 7 = x.2) ∧ (two 0).plan 8 = .space 1 false ∧
      (two 0).plan 9 = .search ∧ duplicates.position ≤ duplicates.entries.length := by decide

end Sys2Proof.Tests
end

section
/-! PROOF. The vertical checks of a frame (R1) and the selection of a closed frame by them (R84). The parity of a lane group is linear
in the frame's word, so losing one lane that was set turns the parity of that lane's group and of no other. -/

namespace Sys2Proof.Machine

/-! ### The parity of the lane groups -/

theorem passesChecks_iff (v : Lanes) : passesChecks v = true ↔ evenGroupOdd v = true ∧ oddGroupOdd v = true := by
  simp [passesChecks]

theorem evenGroupOdd_xor (v w : Lanes) : evenGroupOdd (v ^^^ w) = (evenGroupOdd v ^^ evenGroupOdd w) := by
  simp only [evenGroupOdd, BitVec.getLsbD_xor, Bool.xor_assoc, Bool.xor_left_comm]

theorem oddGroupOdd_xor (v w : Lanes) : oddGroupOdd (v ^^^ w) = (oddGroupOdd v ^^ oddGroupOdd w) := by
  simp only [oddGroupOdd, BitVec.getLsbD_xor, Bool.xor_assoc, Bool.xor_left_comm]

/-- E is lane 8 (log 1), so the even group is the lanes of even number. -/
theorem evenGroupOdd_laneBit : ∀ l : Lane, evenGroupOdd (laneBit l) = decide (l.val % 2 = 0) := by decide

/-- O is lane 9 (log 1), so the odd group is the lanes of odd number. -/
theorem oddGroupOdd_laneBit : ∀ l : Lane, oddGroupOdd (laneBit l) = decide (l.val % 2 = 1) := by decide

/-- The exclusive or of five lanes is one when an odd number of them are. -/
theorem xor_five_eq_true_iff : ∀ a b c d e : Bool,
    ((a ^^ b) ^^ ((c ^^ d) ^^ e)) = true ↔
      ((if a then 1 else 0) + (if b then 1 else 0) + (if c then 1 else 0) + (if d then 1 else 0) +
        if e then 1 else 0) % 2 = 1 := by decide

/-! ### The frame written for a byte -/

@[simp] theorem dataLanes_frameOf (b : Byte) : dataLanes (frameOf b) = b :=
  BitVec.extractLsb'_append_eq_right

theorem frameOf_data (b : Byte) {n : Nat} (h : n < 8) : (frameOf b).getLsbD n = b.getLsbD n :=
  BitVec.getLsbD_append.trans (by rw [if_pos h])

/-- Lane E complements the parity of the even data lanes (R1). -/
theorem frameOf_even (b : Byte) :
    (frameOf b).getLsbD 8 = !((b.getLsbD 0 ^^ b.getLsbD 2) ^^ (b.getLsbD 4 ^^ b.getLsbD 6)) :=
  (BitVec.getLsbD_append.trans (if_neg (by decide))).trans (BitVec.getLsbD_append.trans (by simp))

/-- Lane O complements the parity of the odd data lanes (R1). -/
theorem frameOf_odd (b : Byte) :
    (frameOf b).getLsbD 9 = !((b.getLsbD 1 ^^ b.getLsbD 3) ^^ (b.getLsbD 5 ^^ b.getLsbD 7)) :=
  (BitVec.getLsbD_append.trans (if_neg (by decide))).trans (BitVec.getLsbD_append.trans (by simp))

/-- A check lane that complements the parity of its group's data lanes makes the whole group odd. -/
theorem not_parity_xor_parity : ∀ a b c d : Bool, ((!((a ^^ b) ^^ (c ^^ d)) ^^ a) ^^ ((b ^^ c) ^^ d)) = true := by
  decide

@[simp] theorem passesChecks_frameOf (b : Byte) : passesChecks (frameOf b) = true := by
  rw [passesChecks_iff]
  constructor
  · simp only [evenGroupOdd, frameOf_even, frameOf_data, Nat.reduceLT, not_parity_xor_parity]
  · simp only [oddGroupOdd, frameOf_odd, frameOf_data, Nat.reduceLT, not_parity_xor_parity]

/-! ### A lost lane -/

theorem getLsbD_laneBit (l : Lane) (n : Nat) : (laneBit l).getLsbD n = decide (l.val = n) := by
  rw [laneBit, BitVec.getLsbD_ofNat, Nat.testBit_two_pow]
  by_cases h : l.val = n
  · simp [← h]
  · simp [h]

/-- Losing a lane that was set is flipping it. -/
theorem clearLane_eq_xor {v : Lanes} {l : Lane} (h : v.getLsbD l.val = true) : v &&& ~~~(laneBit l) = v ^^^ laneBit l := by
  refine BitVec.eq_of_getLsbD_eq fun n hn => ?_
  simp only [BitVec.getLsbD_and, BitVec.getLsbD_not, BitVec.getLsbD_xor, getLsbD_laneBit, hn]
  by_cases hl : l.val = n
  · subst hl; simp [h]
  · simp [hl]

/-- A frame that passes its checks fails the check of the group of a lane it loses. -/
theorem passesChecks_clearLane {v : Lanes} {l : Lane} (hv : passesChecks v = true) (hl : v.getLsbD l.val = true) :
    passesChecks (v &&& ~~~(laneBit l)) = false := by
  obtain ⟨heven, hodd⟩ := (passesChecks_iff v).mp hv
  rw [clearLane_eq_xor hl, passesChecks, evenGroupOdd_xor, oddGroupOdd_xor, heven, hodd, evenGroupOdd_laneBit,
    oddGroupOdd_laneBit]
  obtain h | h := Nat.mod_two_eq_zero_or_one l.val <;> simp [h]

/-! ### The selection of a closed frame -/

section Selection
variable {a : Assembly}

theorem selectFrame_clean (hs : passesChecks a.strong = true) (hw : a.weak = a.strong) :
    selectFrame a = { value := a.strong, status := .clean, skew := a.skew, strong := a.strong } := by
  simp [selectFrame, hs, hw]

theorem selectFrame_marginal (hs : passesChecks a.strong = true) (hw : a.weak ≠ a.strong) :
    selectFrame a = { value := a.strong, status := .marginal, skew := a.skew, strong := a.strong } := by
  simp [selectFrame, hs, hw]

theorem selectFrame_corrected (hs : passesChecks a.strong = false) (hw : passesChecks a.weak = true) :
    selectFrame a = { value := a.weak, status := .corrected, skew := a.skew, strong := a.strong } := by
  simp [selectFrame, hs, hw]

theorem selectFrame_unreadable (hs : passesChecks a.strong = false) (hw : passesChecks a.weak = false) :
    selectFrame a = { value := a.strong, status := .unreadable, skew := a.skew, strong := a.strong } := by
  simp [selectFrame, hs, hw]

end Selection

@[simp] theorem selectFrame_skew (a : Assembly) : (selectFrame a).skew = a.skew := by
  unfold selectFrame
  split
  · rfl
  · split <;> rfl

@[simp] theorem selectFrame_strong (a : Assembly) : (selectFrame a).strong = a.strong := by
  unfold selectFrame
  split
  · rfl
  · split <;> rfl

theorem ReadFrame.readable_iff (f : ReadFrame) :
    f.readable = true ↔ f.status = .clean ∨ f.status = .marginal ∨ f.status = .corrected := by
  cases h : f.status <;> simp [ReadFrame.readable, h]

/-- Settles O47: the parity of each group lane by lane, the frame of a byte, the four rows of R84's table, and the lane that is lost,
which `passesChecks_clearLane` turns into the third or fourth row. -/
theorem frameSelectionFollowsTheVerticalChecks : Obligations.FrameSelectionFollowsTheVerticalChecks := by
  unfold Obligations.FrameSelectionFollowsTheVerticalChecks
  refine ⟨fun v => ⟨?_, rfl⟩, fun b => ⟨passesChecks_frameOf b, dataLanes_frameOf b⟩, fun a => ?_, ?_⟩
  · rw [passesChecks_iff]
    exact and_congr (xor_five_eq_true_iff ..) (xor_five_eq_true_iff ..)
  · refine ⟨selectFrame_skew a, selectFrame_strong a, ?_, ?_, ?_, ?_, ReadFrame.readable_iff _⟩ <;> intro hs hw
    · simp [selectFrame_clean hs hw]
    · simp [selectFrame_marginal hs hw]
    · simp [selectFrame_corrected hs hw]
    · simp [selectFrame_unreadable hs hw]
  · intro v l a hv hl hstrong
    have hlost : passesChecks a.strong = false := hstrong ▸ passesChecks_clearLane hv hl
    constructor <;> intro hweak
    · simp [selectFrame_corrected hlost (hweak ▸ hv), hweak]
    · simp [selectFrame_unreadable hlost (hweak ▸ hlost), hstrong]

end Sys2Proof.Machine
end

section
/-! PROOF. A record passed forward and in reverse (R126 to R131): what it makes of the catalogue and of the next ordinal, each operation
said once per case, and the truncation before a write (R133). -/

namespace Sys2Proof.Machine

section Catalogue
variable {c : Catalogue} (r : RecordInfo)

/-! ### A record passed forward -/

theorem Catalogue.passForward_of_unknown (h : c.state = .unknown) :
    c.passForward r = { state := .floating, entries := [r], position := 1 } := by
  simp [Catalogue.passForward, h]

theorem Catalogue.passForward_of_lt (h : c.state ≠ .unknown) (hp : c.position < c.entries.length) :
    c.passForward r = { c with entries := c.entries.set c.position r, position := c.position + 1 } := by
  simp [Catalogue.passForward, hp]

theorem Catalogue.passForward_append (h : c.state ≠ .unknown) (hp : c.position = c.entries.length)
    (hl : c.entries.length < Config.catalogueSize) :
    c.passForward r = { c with entries := c.entries ++ [r], position := c.position + 1 } := by
  simp [Catalogue.passForward, hp, hl]

/-- With entry 0 dropped, the first entry is no longer the first record after the load point, so an ANCHORED catalogue floats too
(R127). -/
theorem Catalogue.passForward_full (h : c.state ≠ .unknown) (hp : c.position = c.entries.length)
    (hl : c.entries.length = Config.catalogueSize) :
    c.passForward r = { state := .floating, entries := c.entries.drop 1 ++ [r], position := Config.catalogueSize } := by
  simp [Catalogue.passForward, hp, hl]

/-! ### A record passed in reverse -/

theorem Catalogue.passReverse_of_unknown (h : c.state = .unknown) :
    c.passReverse r = { state := .floating, entries := [r], position := 0 } := by
  simp [Catalogue.passReverse, h]

theorem Catalogue.passReverse_of_pos (h : c.state ≠ .unknown) (hp : 0 < c.position) :
    c.passReverse r = { c with entries := c.entries.set (c.position - 1) r, position := c.position - 1 } := by
  simp [Catalogue.passReverse, hp]

/-- A record before entry 0 shows an ANCHORED catalogue's claim, that none lies before it, false (R130). -/
theorem Catalogue.passReverse_front (h : c.state ≠ .unknown) (hp : c.position = 0) :
    c.passReverse r = { state := .floating, entries := (r :: c.entries).take Config.catalogueSize, position := 0 } := by
  simp [Catalogue.passReverse, hp]

/-! ### The truncation before a write -/

theorem Catalogue.truncate_of_unknown (h : c.state = .unknown) : c.truncate = c := by
  simp [Catalogue.truncate, h]

theorem Catalogue.truncate_of_anchored (h : c.state = .anchored) :
    c.truncate = { c with entries := c.entries.take c.position } := by
  simp [Catalogue.truncate, h]

theorem Catalogue.truncate_of_floating (h : c.state = .floating) (hk : c.entries.take c.position ≠ []) :
    c.truncate = { c with entries := c.entries.take c.position } := by
  simp only [Catalogue.truncate, h, List.isEmpty_iff, hk, if_false]

theorem Catalogue.truncate_of_floating_nil (h : c.state = .floating) (hk : c.entries.take c.position = []) :
    c.truncate = Catalogue.unknown := by
  simp only [Catalogue.truncate, h, List.isEmpty_iff, hk, if_true]

end Catalogue

/-! ### The next ordinal -/

section NextOrdinal
variable {r : RecordInfo} {i : Ident} (next : Word) (mark : Bool)

theorem nextAfterForward_of_no_ident (h : r.ident = none) : nextAfterForward next r mark = next := by
  simp [nextAfterForward, h]

theorem nextAfterReverse_of_no_ident (h : r.ident = none) : nextAfterReverse next r = next := by
  simp [nextAfterReverse, h]

/-- A committed record moves the next ordinal, and so does a copy written with its passed mark and no trailer (R128). -/
theorem nextAfterForward_of_ident (h : r.ident = some i) :
    nextAfterForward next r mark =
      if r.trailer = .commit ∨ (mark = true ∧ r.trailer = .none) then i.ordinal + 1 else next := by
  simp [nextAfterForward, h]

theorem nextAfterReverse_of_ident (h : r.ident = some i) :
    nextAfterReverse next r = if r.trailer = .commit then i.ordinal else next := by
  simp [nextAfterReverse, h]

end NextOrdinal

/-! ### What a report does to the unit it is about -/

section Placed
variable {u : UnitId} {s : State} (r : RecordInfo) (mark : Bool)

theorem placeForward_of_not_selected (h : s.tlc.selected ≠ some u) : placeForward u r mark s = s :=
  if_neg h

theorem placeReverse_of_not_selected (h : s.tlc.selected ≠ some u) : placeReverse u r s = s :=
  if_neg h

theorem catalogue_placeForward (h : s.tlc.selected = some u) :
    (placeForward u r mark s).catalogue u = (s.catalogue u).passForward r := by
  simp [placeForward, h]

theorem catalogue_placeReverse (h : s.tlc.selected = some u) :
    (placeReverse u r s).catalogue u = (s.catalogue u).passReverse r := by
  simp [placeReverse, h]

theorem nextOrdinal_placeForward (h : s.tlc.selected = some u) :
    (placeForward u r mark s).nextOrdinal u = nextAfterForward (s.nextOrdinal u) r mark := by
  simp [placeForward, h]

theorem nextOrdinal_placeReverse (h : s.tlc.selected = some u) :
    (placeReverse u r s).nextOrdinal u = nextAfterReverse (s.nextOrdinal u) r := by
  simp [placeReverse, h]

end Placed

/-- Settles O59: on the selected unit the report is the catalogue's own pass and the ordinal's own rule, whose cases are the lemmas
above; on another unit it is nothing. -/
theorem recordsPassedMoveTheCatalogue : Obligations.RecordsPassedMoveTheCatalogue := by
  unfold Obligations.RecordsPassedMoveTheCatalogue
  refine ⟨fun c => ⟨Catalogue.truncate_of_unknown, Catalogue.truncate_of_anchored, Catalogue.truncate_of_floating,
    Catalogue.truncate_of_floating_nil⟩, fun u r mark s => ⟨fun hs => ⟨placeForward_of_not_selected r mark hs,
    placeReverse_of_not_selected r hs⟩, fun hs => ?_⟩⟩
  simp only [catalogue_placeForward r mark hs, catalogue_placeReverse r hs, nextOrdinal_placeForward r mark hs,
    nextOrdinal_placeReverse r hs]
  refine ⟨fun hu => ⟨Catalogue.passForward_of_unknown r hu, Catalogue.passReverse_of_unknown r hu⟩,
    Catalogue.passForward_of_lt r, Catalogue.passForward_append r,
    fun hk hp hl => Catalogue.passForward_full r hk (hp.trans hl.symm) hl,
    Catalogue.passReverse_of_pos r, fun hk hp _ => Catalogue.passReverse_front r hk hp, fun i hi => ?ordinal,
    fun hi => ⟨nextAfterForward_of_no_ident _ mark hi, nextAfterReverse_of_no_ident _ hi⟩⟩
  case ordinal =>
    rw [nextAfterForward_of_ident _ mark hi, nextAfterReverse_of_ident _ hi]
    refine ⟨fun hcommit => ?_, fun hnone hmark => ?_, fun hnone hmark => ?_, fun hvoid => ?_, fun hne => if_neg hne⟩
    · exact ⟨if_pos (.inl hcommit), if_pos hcommit⟩
    · exact if_pos (.inr ⟨hmark, hnone⟩)
    · simp [hnone, hmark]
    · simp [hvoid]

end Sys2Proof.Machine
end

section
/-! PROOF. Chapter 9 as the host sees it: BUFPTR, the buffer data port, the stream queue and the accesses made with DACK (R171 to R173,
R175 to R177, R181). Each row with nothing in its way is its own effect on the state; each effect is said once per case. -/

namespace Sys2Proof.Machine

/-! ### The rows, with nothing in their way -/

section Rows
variable {s : State} (v : Word)

theorem State.undisturbed_released (h : s.undisturbed = true) : s.hw.resetInput = false := by
  simp only [State.undisturbed, Bool.and_eq_true, Bool.not_eq_true'] at h
  exact h.1

theorem exec_bufptrWrite (h : s.undisturbed = true) : exec (.bufptrWrite v) s = .next (takeBufptrWrite v s) :=
  congrArg _ (event_of_undisturbed s _ h)

theorem exec_bufdataWrite (h : s.undisturbed = true) : exec (.bufdataWrite v) s = .next (portWrite v s) :=
  congrArg _ (event_of_undisturbed s _ h)

theorem exec_bufdataRead (h : s.undisturbed = true) : exec .bufdataRead s = .next (portRead s) :=
  congrArg _ (readEvent_of_undisturbed s _ h)

theorem exec_push (h : s.undisturbed = true) : exec (.push v) s = .next (takePush v s) :=
  congrArg _ (event_of_undisturbed s _ h)

theorem exec_pull (h : s.undisturbed = true) : exec .pull s = .next (takePull s) :=
  congrArg _ (readEvent_of_undisturbed s _ h)

theorem exec_dackRead (h : s.undisturbed = true) : exec (.dackAccess .read) s = .next (dackRead s) :=
  congrArg _ (readEvent_of_undisturbed s _ h)

theorem exec_dackWrite (h : s.undisturbed = true) : exec (.dackAccess (.write v)) s = .next (dackWrite v s) :=
  congrArg _ (event_of_undisturbed s _ h)

end Rows

/-! ### The port a DACK access reaches -/

section Dack
variable {i : Instr} {v : Word} {s : State}

theorem dackRead_of_buffer (hd : s.bu.dma = .bufferIn ∨ s.bu.dma = .bufferOut) : dackRead s = portRead s := by
  rcases hd with hd | hd <;> simp [dackRead, hd]

theorem dackWrite_of_buffer (hd : s.bu.dma = .bufferIn ∨ s.bu.dma = .bufferOut) : dackWrite v s = portWrite v s := by
  rcases hd with hd | hd <;> simp [dackWrite, hd]

theorem dackRead_of_stream (hd : s.bu.dma = .stream) : dackRead s = takePull s := by
  simp [dackRead, hd]

theorem dackWrite_of_stream (hd : s.bu.dma = .stream) : dackWrite v s = takePush v s := by
  simp [dackWrite, hd]

theorem dackRead_of_off (hd : s.bu.dma = .off) : dackRead s = (s.setHw s.hw.refuseAccess).setDataOut 0 := by
  simp [dackRead, hd]

theorem dackWrite_of_off (hd : s.bu.dma = .off) : dackWrite v s = s.setHw s.hw.refuseAccess := by
  simp [dackWrite, hd]

/-! The two ways to each port, which the statements about the ports name together. -/

theorem exec_portWrite (h : s.undisturbed = true)
    (hi : i = .bufdataWrite v ∨ (i = .dackAccess (.write v) ∧ (s.bu.dma = .bufferIn ∨ s.bu.dma = .bufferOut))) :
    exec i s = .next (portWrite v s) := by
  obtain rfl | ⟨rfl, hd⟩ := hi
  · exact exec_bufdataWrite v h
  · rw [exec_dackWrite v h, dackWrite_of_buffer hd]

theorem exec_portRead (h : s.undisturbed = true)
    (hi : i = .bufdataRead ∨ (i = .dackAccess .read ∧ (s.bu.dma = .bufferIn ∨ s.bu.dma = .bufferOut))) :
    exec i s = .next (portRead s) := by
  obtain rfl | ⟨rfl, hd⟩ := hi
  · exact exec_bufdataRead h
  · rw [exec_dackRead h, dackRead_of_buffer hd]

theorem exec_takePush (h : s.undisturbed = true)
    (hi : i = .push v ∨ (i = .dackAccess (.write v) ∧ s.bu.dma = .stream)) : exec i s = .next (takePush v s) := by
  obtain rfl | ⟨rfl, hd⟩ := hi
  · exact exec_push v h
  · rw [exec_dackWrite v h, dackWrite_of_stream hd]

theorem exec_takePull (h : s.undisturbed = true)
    (hi : i = .pull ∨ (i = .dackAccess .read ∧ s.bu.dma = .stream)) : exec i s = .next (takePull s) := by
  obtain rfl | ⟨rfl, hd⟩ := hi
  · exact exec_pull h
  · rw [exec_dackRead h, dackRead_of_stream hd]

end Dack

/-- Settles O32: DACK under each source is the effect of the port the source names, so the two rows have one outcome. -/
theorem dackReachesTheNamedPort : Obligations.DackReachesTheNamedPort := by
  intro v s h
  refine ⟨fun hd => ⟨?_, ?_⟩, fun hd => ⟨?_, ?_⟩, fun hd => ⟨?_, ?_⟩⟩
  · rw [exec_dackRead h, exec_bufdataRead h, dackRead_of_buffer hd]
  · rw [exec_dackWrite v h, exec_bufdataWrite v h, dackWrite_of_buffer hd]
  · rw [exec_dackRead h, exec_pull h, dackRead_of_stream hd]
  · rw [exec_dackWrite v h, exec_push v h, dackWrite_of_stream hd]
  · rw [exec_dackRead h, dackRead_of_off hd]; rfl
  · rw [exec_dackWrite v h, dackWrite_of_off hd]; rfl

/-! ### The pointer of the selected buffer -/

@[simp] theorem BufferUnit.selected_setBuffer (bu : BufferUnit) (r : RecordBuffer) :
    (bu.setBuffer bu.select r).selected = r :=
  PerBuffer.get_set_self _ _ _

section Pointer
variable {v : Word} {s : State}

theorem takeBufptrWrite_of_le (hv : v.toNat ≤ 4096) :
    takeBufptrWrite v s = s.setBu (s.bu.setBuffer s.bu.select { s.bu.selected with pointer := v.toNat }) :=
  if_neg (Nat.not_lt.mpr hv)

theorem takeBufptrWrite_of_gt (hv : 4096 < v.toNat) : takeBufptrWrite v s = s.setHw s.hw.refuseAccess :=
  if_pos hv

theorem readWord_bufptr (hr : s.hw.resetInput = false) : readWord 0x22 s = BitVec.ofNat 16 s.bu.selected.pointer := by
  simp [readWord, wordOffset, hr]

end Pointer

/-- Settles O27: the pointer written is the number of the word, so a read gives the word back. -/
theorem bufptrTakesValuesUpTo4096 : Obligations.BufptrTakesValuesUpTo4096 := by
  intro v s h
  refine ⟨fun hv => ⟨_, exec_bufptrWrite v h, ?_, ?_⟩, fun hv => ?_⟩
  · rw [takeBufptrWrite_of_le hv]; rfl
  · have hr : (takeBufptrWrite v s).hw.resetInput = false := by
      rw [takeBufptrWrite_of_le hv]
      exact State.undisturbed_released h
    rw [readWord_bufptr hr, takeBufptrWrite_of_le hv]
    simp
  · rw [exec_bufptrWrite v h, takeBufptrWrite_of_gt hv]; rfl

/-! ### The buffer data port -/

theorem BufferUnit.portOpen_iff (bu : BufferUnit) :
    bu.portOpen = true ↔ bu.selected.committed = false ∧ bu.selected.pointer < 4096 := by
  simp only [BufferUnit.portOpen, Bool.and_eq_true, Bool.not_eq_true', decide_eq_true_eq]
  rfl

theorem BufferUnit.portOpen_eq_false_iff (bu : BufferUnit) :
    bu.portOpen = false ↔ bu.selected.committed = true ∨ 4096 ≤ bu.selected.pointer := by
  rw [← Bool.not_eq_true, bu.portOpen_iff, not_and_or, Bool.not_eq_false, Nat.not_lt]

section Port
variable {s : State}

theorem portWrite_of_open (v : Word) (ho : s.bu.portOpen = true) :
    portWrite v s = s.setBu (s.bu.setBuffer s.bu.select (s.bu.selected.storeWord v)) :=
  if_pos ho

theorem portWrite_of_closed (v : Word) (hc : s.bu.portOpen = false) : portWrite v s = s.setHw s.hw.refuseAccess := by
  simp [portWrite, hc]

theorem portRead_of_open (ho : s.bu.portOpen = true) :
    portRead s =
      (s.setBu (s.bu.setBuffer s.bu.select { s.bu.selected with pointer := nextPointer s.bu.selected.pointer })).setDataOut
        s.bu.selected.portValue :=
  if_pos ho

theorem portRead_of_closed (hc : s.bu.portOpen = false) : portRead s = (s.setHw s.hw.refuseAccess).setDataOut 0 := by
  simp [portRead, hc]

end Port

section Halves
variable (a b : Byte)

@[simp] theorem lowByte_portWord : lowByte (portWord a b) = a :=
  BitVec.extractLsb'_append_eq_right

@[simp] theorem highByte_portWord : highByte (portWord a b) = b :=
  BitVec.extractLsb'_append_eq_left

end Halves

section StoreWord
variable {r : RecordBuffer} {v : Word}

theorem RecordBuffer.read_storeWord_low (h : r.contents.wf = true) :
    (r.storeWord v).contents.read r.pointer = lowByte v := by
  have hlow := BufferMemory.read_write_self r.contents none r.pointer (lowByte v) h
  unfold RecordBuffer.storeWord
  by_cases hp : r.pointer + 1 < Config.recordBytes
  · simp only [hp, if_true]
    rw [BufferMemory.read_write_other _ none _ _ _ (BufferMemory.write_wf _ _ _ h) (Nat.ne_of_lt (Nat.lt_succ_self _)), hlow]
  · simpa only [hp, if_false] using hlow

theorem RecordBuffer.read_storeWord_high (h : r.contents.wf = true) (hp : r.pointer + 1 < 4096) :
    (r.storeWord v).contents.read (r.pointer + 1) = highByte v := by
  have hp' : r.pointer + 1 < Config.recordBytes := hp
  simp only [RecordBuffer.storeWord, hp', if_true]
  exact BufferMemory.read_write_self _ none _ _ (BufferMemory.write_wf _ _ _ h)

/-- At 4095 the high half is discarded, so index 4096 reads as before too. -/
theorem RecordBuffer.read_storeWord_other (h : r.contents.wf = true) {n : Nat} (hn : n ≠ r.pointer)
    (hn' : n ≠ r.pointer + 1 ∨ r.pointer = 4095) : (r.storeWord v).contents.read n = r.contents.read n := by
  have hlow := BufferMemory.read_write_other r.contents none r.pointer n (lowByte v) h hn
  unfold RecordBuffer.storeWord
  by_cases hp : r.pointer + 1 < Config.recordBytes
  · have hhigh : n ≠ r.pointer + 1 := hn'.resolve_right fun hlast => by simp [hlast, Config.recordBytes] at hp
    simp only [hp, if_true]
    rw [BufferMemory.read_write_other _ none _ _ _ (BufferMemory.write_wf _ _ _ h) hhigh, hlow]
  · simpa only [hp, if_false] using hlow

end StoreWord

/-- Settles O28: an open port stores the word (the lemmas above say where each byte lies), a closed one refuses. -/
theorem portWriteStoresTwoBytes : Obligations.PortWriteStoresTwoBytes := by
  intro i v s h hwf hi
  refine ⟨fun hc hp => ?stored, fun hcl => ?refused⟩
  case stored =>
    refine ⟨s.bu.selected.storeWord v, ?_, rfl, rfl, hc, RecordBuffer.storeWord_wf _ _ hwf,
      RecordBuffer.read_storeWord_low hwf, RecordBuffer.read_storeWord_high hwf,
      fun n => RecordBuffer.read_storeWord_other hwf⟩
    rw [exec_portWrite h hi, portWrite_of_open v (s.bu.portOpen_iff.mpr ⟨hc, hp⟩)]
    rfl
  case refused =>
    rw [exec_portWrite h hi, portWrite_of_closed v (s.bu.portOpen_eq_false_iff.mpr hcl)]
    rfl

/-- Settles O29: the word of an open port is made of the two bytes the fill governs. -/
theorem portReadReturnsBytesBelowTheFill : Obligations.PortReadReturnsBytesBelowTheFill := by
  intro i s h hi
  refine ⟨fun hc hp => ⟨s.bu.selected.portValue, ?read, ?low, ?high⟩, fun hcl => ?refused⟩
  case read =>
    rw [exec_portRead h hi, portRead_of_open (s.bu.portOpen_iff.mpr ⟨hc, hp⟩)]
    rfl
  case low => exact lowByte_portWord _ _
  case high => exact highByte_portWord _ _
  case refused =>
    rw [exec_portRead h hi, portRead_of_closed (s.bu.portOpen_eq_false_iff.mpr hcl)]
    rfl

/-! ### The stream queue -/

theorem holdsWriteStream_iff (queue : List Command) :
    holdsWriteStream queue = true ↔ ∃ c ∈ queue, c.code = .writeStream := by
  simp [holdsWriteStream]

theorem State.activeIs_iff (s : State) (code : CommandCode) :
    s.activeIs code = true ↔ ∃ a, s.oc = .active a ∧ a.cmd.code = code := by
  unfold State.activeIs
  cases s.oc <;> simp

theorem State.pushAccepted_iff (s : State) :
    s.pushAccepted = true ↔
      s.bu.stream.length + 2 ≤ 64 ∧
        ((∃ c ∈ s.cu.queue, c.code = .writeStream) ∨ (∃ a, s.oc = .active a ∧ a.cmd.code = .writeStream)) ∧
        s.bu.delivery = false := by
  rw [← holdsWriteStream_iff, ← State.activeIs_iff]
  simp [State.pushAccepted, BufferUnit.streamRoom, Config.streamSize, and_assoc]

/-- The delivery mark clears when the queue is empty and no READ STREAM is active, and nothing else changes (R175). -/
theorem BufferUnit.settleDelivery_eq (bu : BufferUnit) (active : Bool) :
    bu.settleDelivery active =
      { bu with delivery := if bu.stream = [] ∧ active = false then false else bu.delivery } := by
  by_cases h : bu.stream = [] ∧ active = false <;> simp [BufferUnit.settleDelivery, h]

section Stream
variable {s : State}

theorem takePush_of_accepted (v : Word) (ha : s.pushAccepted = true) : takePush v s = s.setBu (s.bu.pushWord v) :=
  if_pos ha

theorem takePush_of_refused (v : Word) (hr : ¬s.pushAccepted = true) : takePush v s = s.setHw s.hw.refuseStream :=
  if_neg hr

theorem takePull_of_nil (hq : s.bu.stream = []) : takePull s = (s.setHw s.hw.refuseStream).setDataOut 0 := by
  simp [takePull, hq]

/-- A queue with a byte in it loses its two oldest bytes, or its only one. -/
theorem takePull_of_ne_nil (hq : s.bu.stream ≠ []) :
    takePull s =
      (s.setBu
        { s.bu with
          stream := s.bu.stream.drop 2
          delivery := if s.bu.stream.drop 2 = [] ∧ s.activeIs .readStream = false then false else s.bu.delivery
        }).setDataOut (pullValue s.bu.stream) := by
  simp [takePull, hq, BufferUnit.settleDelivery_eq]

end Stream

/-- Settles O30: the block's own test is the three conditions together. -/
theorem pushIsAcceptedOrRefused : Obligations.PushIsAcceptedOrRefused := by
  intro i v s h hi
  refine ⟨fun ha => ?accepted, fun hr => ?refused⟩
  case accepted =>
    rw [exec_takePush h hi, takePush_of_accepted v (s.pushAccepted_iff.mpr ha)]
    rfl
  case refused =>
    rw [exec_takePush h hi, takePush_of_refused v (mt s.pushAccepted_iff.mp hr)]
    rfl

/-- Settles O31: with the queue written out, dropping two bytes and the pulled word compute. -/
theorem pullTakesTheOldestBytes : Obligations.PullTakesTheOldestBytes := by
  intro i s h hi
  refine ⟨fun a b rest hq => ?two, fun a hq => ?one, fun hq => ?none⟩
  case two =>
    rw [exec_takePull h hi, takePull_of_ne_nil (by simp [hq]), hq]
    rfl
  case one =>
    rw [exec_takePull h hi, takePull_of_ne_nil (by simp [hq]), hq]
    rfl
  case none =>
    rw [exec_takePull h hi, takePull_of_nil hq]
    rfl

end Sys2Proof.Machine
end

section
/-! PROOF. INTEN and INT (R192): the enables a write sets, the word a read of them returns, and the conditions that hold INT high. -/

namespace Sys2Proof.Machine

/-! ### The word of the three enables -/

theorem bitOf_eq_toNat (b : Bool) : bitOf b = b.toNat := by
  cases b <;> rfl

theorem bitOf_getLsbD (w : Word) (n : Nat) : bitOf (w.getLsbD n) = w.toNat / 2 ^ n % 2 :=
  (bitOf_eq_toNat _).trans (Nat.toNat_testBit w.toNat n)

/-- The low three bits of a word, packed each in its own place, are the word under the mask 7. -/
theorem packWord_low_three_bits (w : Word) :
    packWord [(bitOf (w.getLsbD 0), 0), (bitOf (w.getLsbD 1), 1), (bitOf (w.getLsbD 2), 2)] = w &&& 0x0007#16 := by
  apply BitVec.eq_of_toNat_eq
  have hmask : (w &&& 0x0007#16).toNat = w.toNat % 8 := Nat.and_two_pow_sub_one_eq_mod w.toNat 3
  simp only [hmask, packWord, bitOf_getLsbD, BitVec.toNat_ofNat, List.map, List.sum_cons, List.sum_nil]
  omega

/-! ### The conditions of INT -/

theorem PerUnit.any_iff {α : Type} (p : PerUnit α) (f : α → Bool) : p.any f = true ↔ ∃ u : UnitId, f (p.get u) = true := by
  simp [PerUnit.any, PerUnit.get, Fin.exists_fin_succ, or_assoc]

theorem State.int_iff {s : State} (hr : s.hw.resetInput = false) :
    s.int = true ↔
      (s.hw.completionEnable = true ∧ s.cmp.ring ≠ []) ∨
        (s.hw.attentionEnable = true ∧ ∃ u : UnitId, (s.link u).causes.any = true) ∨
        (s.hw.resetDoneEnable = true ∧ s.hw.resetDone = true) := by
  simp [State.int, hr, PerUnit.any_iff, State.link, or_assoc]

/-! ### The row, with nothing in its way -/

section Row
variable {s : State} (v : Word)

theorem exec_intenWrite (h : s.undisturbed = true) : exec (.intenWrite v) s = .next (takeIntenWrite v s) :=
  congrArg _ (event_of_undisturbed s _ h)

theorem readWord_inten (hr : s.hw.resetInput = false) : readWord 0x0E s = s.hw.intenWord := by
  simp [readWord, wordOffset, hr]

theorem intenWord_takeIntenWrite : (takeIntenWrite v s).hw.intenWord = v &&& 0x0007#16 :=
  packWord_low_three_bits v

end Row

/-- Settles O24: the write leaves RESET as it was, so the read and INT after it are those of the three bits written. -/
theorem intenSetsTheEnablesAndIntFollows : Obligations.IntenSetsTheEnablesAndIntFollows := by
  intro v s h
  have hr : (takeIntenWrite v s).hw.resetInput = false := State.undisturbed_released h
  refine ⟨takeIntenWrite v s, exec_intenWrite v h, rfl, ?read, ?int⟩
  case read => rw [readWord_inten hr, intenWord_takeIntenWrite]
  case int => exact State.int_iff hr

end Sys2Proof.Machine
end

section
/-! PROOF. What the promises of the block have in common: a step leaves most of what they speak of alone. `Untouched` says this of the
whole command side but the active record, `Calm` of the active command too, `Quiet` also of the selection, the modes and the timer; each
is said once for the update of one block, and every operation is a chain of these. -/

namespace Sys2Proof.Machine

/-! ### What an operation leaves alone -/

/-- Queue, completions and the owners' marks stand; every capacity, catalogue and profile that was sound is sound. -/
structure Untouched (s t : State) : Prop where
  pending : t.pending = s.pending
  cu : t.cu = s.cu
  cmp : t.cmp = s.cmp
  committed : ∀ b, (t.bu.buffer b).committed = (s.bu.buffer b).committed
  discards : s.hw.discards ≤ Config.discardLimit → t.hw.discards ≤ Config.discardLimit
  window : s.vu.window.length ≤ Config.windowSize → t.vu.window.length ≤ Config.windowSize
  buffers : ∀ b, (s.bu.buffer b).ok → (t.bu.buffer b).ok
  stream : s.bu.stream.length ≤ Config.streamSize → t.bu.stream.length ≤ Config.streamSize
  catalogues : ∀ u, (s.catalogue u).ok → (t.catalogue u).ok
  profiles : ∀ u, (t.link u).profile = (s.link u).profile

/-- The command of the active operation, if any. -/
def State.command (s : State) : Option Command := s.active.map Active.cmd

/-- The active command stands too. -/
structure Calm (s t : State) : Prop extends Untouched s t where
  command : t.command = s.command

/-- What R44, R45 and log 34 say of the Phase Timer in each mode. -/
def State.timerOk (s : State) : Prop :=
  (s.oc = .idle → s.timer = .stopped) ∧ (s.oc ≠ .idle ∧ s.oc ≠ .stopping → s.timer.phase.isSome = true) ∧
    (s.oc = .stopping → s.timer.target = none ∧ s.timer.deadline = none)

/-- The selection stands, the gate is not raised, the mode stays IDLE or STOPPING or neither, and the timer stays sound. -/
structure Quiet (s t : State) : Prop extends Calm s t where
  selected : t.tlc.selected = s.tlc.selected
  gate : t.fw.gate = true → s.fw.gate = true
  idle : t.oc = .idle ↔ s.oc = .idle
  timer : s.timerOk → t.timerOk

theorem State.command_of_active {s : State} {a : Active} (h : s.oc = .active a) : s.command = some a.cmd := by
  simp [State.command, State.active, h]

theorem State.command_eq_some {s : State} {c : Command} (h : s.command = some c) : ∃ a, s.oc = .active a ∧ a.cmd = c := by
  unfold State.command State.active at h
  cases ho : s.oc <;> simp_all

theorem State.active_eq_none {s : State} : s.active = none ↔ ∀ a, s.oc ≠ .active a := by
  unfold State.active
  cases s.oc <;> simp

section Untouched
variable {s t r : State}

theorem Untouched.refl (s : State) : Untouched s s :=
  ⟨rfl, rfl, rfl, fun _ => rfl, id, id, fun _ => id, id, fun _ => id, fun _ => rfl⟩

theorem Untouched.trans (h : Untouched s t) (k : Untouched t r) : Untouched s r where
  pending := k.pending.trans h.pending
  cu := k.cu.trans h.cu
  cmp := k.cmp.trans h.cmp
  committed b := (k.committed b).trans (h.committed b)
  discards := k.discards ∘ h.discards
  window := k.window ∘ h.window
  buffers b := k.buffers b ∘ h.buffers b
  stream := k.stream ∘ h.stream
  catalogues u := k.catalogues u ∘ h.catalogues u
  profiles u := (k.profiles u).trans (h.profiles u)

/-- The active record is not what `Untouched` speaks of. -/
theorem Untouched.setOc (s : State) (x : Operation) : Untouched s (s.setOc x) :=
  ⟨rfl, rfl, rfl, fun _ => rfl, id, id, fun _ => id, id, fun _ => id, fun _ => rfl⟩

theorem Calm.refl (s : State) : Calm s s := ⟨Untouched.refl s, rfl⟩

theorem Calm.trans (h : Calm s t) (k : Calm t r) : Calm s r :=
  ⟨h.toUntouched.trans k.toUntouched, k.command.trans h.command⟩

/-- `Calm.trans` with its second part first, which is the one that names the state between them. -/
theorem Calm.after (k : Calm t r) (h : Calm s t) : Calm s r := h.trans k

theorem Quiet.refl (s : State) : Quiet s s := ⟨Calm.refl s, rfl, id, Iff.rfl, id⟩

theorem Quiet.trans (h : Quiet s t) (k : Quiet t r) : Quiet s r :=
  ⟨h.toCalm.trans k.toCalm, k.selected.trans h.selected, h.gate ∘ k.gate, k.idle.trans h.idle, k.timer ∘ h.timer⟩

/-- `Quiet.trans` with its second part first. -/
theorem Quiet.after (k : Quiet t r) (h : Quiet s t) : Quiet s r := h.trans k

end Untouched

/-! ### The update of one block -/

section Updates
variable (s : State)

theorem Quiet.setFr (x : FrameReader) : Quiet s (s.setFr x) :=
  ⟨⟨⟨rfl, rfl, rfl, fun _ => rfl, id, id, fun _ => id, id, fun _ => id, fun _ => rfl⟩, rfl⟩, rfl, id, Iff.rfl, id⟩

variable {s}

theorem Quiet.setHw {x : HostWindow} (h : s.hw.discards ≤ Config.discardLimit → x.discards ≤ Config.discardLimit) :
    Quiet s (s.setHw x) :=
  ⟨⟨⟨rfl, rfl, rfl, fun _ => rfl, h, id, fun _ => id, id, fun _ => id, fun _ => rfl⟩, rfl⟩, rfl, id, Iff.rfl, id⟩

theorem Calm.setFw (x : FrameWriter) : Calm s (s.setFw x) :=
  ⟨⟨rfl, rfl, rfl, fun _ => rfl, id, id, fun _ => id, id, fun _ => id, fun _ => rfl⟩, rfl⟩

theorem Quiet.setFw {x : FrameWriter} (h : x.gate = true → s.fw.gate = true) : Quiet s (s.setFw x) :=
  ⟨Calm.setFw x, rfl, h, Iff.rfl, id⟩

theorem Quiet.setVu {x : VerifyUnit} (h : s.vu.window.length ≤ Config.windowSize → x.window.length ≤ Config.windowSize) :
    Quiet s (s.setVu x) :=
  ⟨⟨⟨rfl, rfl, rfl, fun _ => rfl, id, h, fun _ => id, id, fun _ => id, fun _ => rfl⟩, rfl⟩, rfl, id, Iff.rfl, id⟩

theorem Quiet.setRc {x : RecordCatalogue} (h : ∀ u, (s.catalogue u).ok → (x.catalogues.get u).ok) : Quiet s (s.setRc x) :=
  ⟨⟨⟨rfl, rfl, rfl, fun _ => rfl, id, id, fun _ => id, id, h, fun _ => rfl⟩, rfl⟩, rfl, id, Iff.rfl, id⟩

/-- The buffers' owners' marks stand, and buffers and stream queue stay within their capacities. -/
structure BufferUnit.Sound (b b' : BufferUnit) : Prop where
  committed : ∀ i, (b'.buffer i).committed = (b.buffer i).committed
  buffers : ∀ i, (b.buffer i).ok → (b'.buffer i).ok
  stream : b.stream.length ≤ Config.streamSize → b'.stream.length ≤ Config.streamSize

theorem Quiet.setBu {x : BufferUnit} (h : s.bu.Sound x) : Quiet s (s.setBu x) :=
  ⟨⟨⟨rfl, rfl, rfl, h.committed, id, id, h.buffers, h.stream, fun _ => id, fun _ => rfl⟩, rfl⟩, rfl, id, Iff.rfl, id⟩

theorem Calm.setTlc {x : TransportLink} (h : ∀ u, (x.units.get u).profile = (s.link u).profile) : Calm s (s.setTlc x) :=
  ⟨⟨rfl, rfl, rfl, fun _ => rfl, id, id, fun _ => id, id, fun _ => id, h⟩, rfl⟩

theorem Quiet.setTlc {x : TransportLink} (h : ∀ u, (x.units.get u).profile = (s.link u).profile)
    (hs : x.selected = s.tlc.selected) : Quiet s (s.setTlc x) :=
  ⟨Calm.setTlc h, hs, id, Iff.rfl, id⟩

theorem Calm.setTimer (x : PhaseTimer) : Calm s (s.setTimer x) :=
  ⟨⟨rfl, rfl, rfl, fun _ => rfl, id, id, fun _ => id, id, fun _ => id, fun _ => rfl⟩, rfl⟩

/-- In an operation or FINISH any running phase count is sound. -/
theorem Quiet.setTimer {x : PhaseTimer} (hi : s.oc ≠ .idle) (hs : s.oc ≠ .stopping)
    (h : s.timer.phase.isSome = true → x.phase.isSome = true) : Quiet s (s.setTimer x) :=
  ⟨Calm.setTimer x, rfl, id, Iff.rfl, fun ⟨_, hp, _⟩ => ⟨fun e => absurd e hi, fun e => h (hp e), fun e => absurd e hs⟩⟩

/-- A tick leaves a stopped count stopped and a running one running. -/
theorem Quiet.tick : Quiet s (s.setTimer s.timer.tick) := by
  refine ⟨Calm.setTimer _, rfl, id, Iff.rfl, fun ⟨hi, hp, hs⟩ => ⟨fun e => ?_, fun e => ?_, fun e => ?_⟩⟩
  · exact (congrArg PhaseTimer.tick (hi e)).trans PhaseTimer.tick_stopped
  · simpa [PhaseTimer.tick] using hp e
  · simpa [PhaseTimer.tick] using hs e

/-- The active record changes but for its command. -/
theorem Quiet.setActive {a b : Active} (h : s.oc = .active a) (hc : b.cmd = a.cmd) : Quiet s (s.setOc (.active b)) := by
  refine ⟨⟨Untouched.setOc s _, ?_⟩, rfl, id, ?_, fun ⟨_, hp, _⟩ => ?_⟩
  · rw [State.command_of_active h, State.command_of_active (s := s.setOc _) rfl, hc]
  · simp [h]
  · refine ⟨nofun, fun _ => ?_, nofun⟩
    exact hp (by simp [h])

/-- A unit's lines, state and causes change. -/
theorem Quiet.setLink {u : UnitId} {l : UnitLink} (h : l.profile = (s.link u).profile) : Quiet s (s.setLink u l) := by
  refine Quiet.setTlc (fun v => ?_) rfl
  by_cases hv : v = u
  · subst hv; simpa using h
  · simp only [PerUnit.get_set_other _ _ hv]; rfl

theorem Quiet.setUnitState (u : UnitId) (x : UnitState) : Quiet s (s.setUnitState u x) := Quiet.setLink rfl

theorem Quiet.setLine (u : UnitId) (k : Line) (b : Bool) : Quiet s (s.setLine u k b) := Quiet.setLink rfl

theorem Quiet.setCatalogue {u : UnitId} {c : Catalogue} (h : (s.catalogue u).ok → c.ok) : Quiet s (s.setCatalogue u c) := by
  refine Quiet.setRc fun v hv => ?_
  by_cases e : v = u
  · subst e; simpa using h hv
  · dsimp only
    rw [PerUnit.get_set_other _ _ e]
    exact hv

theorem Quiet.setNextOrdinal (u : UnitId) (w : Word) : Quiet s (s.setNextOrdinal u w) := Quiet.setRc fun _ => id

end Updates

/-! ### The updates of the Buffer Unit -/

section Buffers
variable (b : BufferUnit)

theorem BufferUnit.Sound.setBuffer {b : BufferUnit} {i : BufferId} {r : RecordBuffer}
    (hc : r.committed = (b.buffer i).committed) (hr : (b.buffer i).ok → r.ok) : b.Sound (b.setBuffer i r) := by
  constructor
  · intro j
    by_cases h : j = i
    · subst h; simpa [BufferUnit.buffer, BufferUnit.setBuffer] using hc
    · simp [BufferUnit.buffer, BufferUnit.setBuffer, PerBuffer.get_set_other _ _ h]
  · intro j hj
    by_cases h : j = i
    · subst h; simpa [BufferUnit.buffer, BufferUnit.setBuffer] using hr hj
    · simpa only [BufferUnit.buffer, BufferUnit.setBuffer, PerBuffer.get_set_other _ _ h] using hj
  · exact id

theorem BufferUnit.Sound.setFill_zero (i : BufferId) : b.Sound (b.setFill i 0) :=
  BufferUnit.Sound.setBuffer rfl fun ⟨hp, _, hw, hk⟩ => ⟨hp, Nat.zero_le _, hw, hk⟩

/-- The buffers stand, the stream queue grows to no more than its capacity. -/
theorem BufferUnit.Sound.of_stream {b' : BufferUnit} (hb : b'.buffers = b.buffers)
    (hs : b.stream.length ≤ Config.streamSize → b'.stream.length ≤ Config.streamSize) : b.Sound b' :=
  ⟨fun i => by rw [BufferUnit.buffer, hb]; rfl, fun i => by rw [BufferUnit.buffer, BufferUnit.buffer, hb]; exact id, hs⟩

theorem RecordBuffer.storeRecordByte_ok {r : RecordBuffer} (v : Byte) (h : r.ok) : (r.storeRecordByte v).ok := by
  obtain ⟨hp, hf, hw, hk⟩ := h
  rcases r.storeRecordByte_cases v with ⟨hlt, e⟩ | ⟨-, e⟩
  · refine e ▸ ⟨hp, hlt, BufferMemory.write_wf _ _ _ hw, fun c hc => ?_⟩
    rcases BufferMemory.write_keys _ _ _ c hc with h | h
    · exact hk c h
    · exact h ▸ hlt
  · exact e.symm ▸ ⟨hp, hf, hw, hk⟩

theorem RecordBuffer.storeRecordByte_committed (r : RecordBuffer) (v : Byte) :
    (r.storeRecordByte v).committed = r.committed := by
  rcases r.storeRecordByte_cases v with ⟨-, e⟩ | ⟨-, e⟩ <;> rw [e]

theorem RecordBuffer.storeWord_ok {r : RecordBuffer} (w : Word) (h : r.ok) (hp : r.pointer < Config.recordBytes) :
    (r.storeWord w).ok := by
  obtain ⟨-, hf, hw, hk⟩ := h
  refine ⟨nextPointer_le _, hf, RecordBuffer.storeWord_wf _ _ hw, ?_⟩
  have hlow : ∀ c ∈ r.contents.write r.pointer (lowByte w), c.1 < Config.recordBytes := fun c hc => by
    rcases BufferMemory.write_keys _ _ _ c hc with h | h
    · exact hk c h
    · exact h ▸ hp
  unfold RecordBuffer.storeWord
  by_cases hn : r.pointer + 1 < Config.recordBytes
  · simp only [hn, if_true]
    intro c hc
    rcases BufferMemory.write_keys _ _ _ c hc with h | h
    · exact hlow c h
    · exact h ▸ hn
  · simpa only [hn, if_false] using hlow

/-- What a command's start does to buffers and queue. -/
theorem BufferUnit.Sound.atStart (c : Command) : b.Sound (b.atStart c).1 := by
  unfold BufferUnit.atStart
  split
  · exact BufferUnit.Sound.setFill_zero b _
  · split
    · exact BufferUnit.Sound.of_stream b rfl fun _ => Nat.zero_le _
    · exact BufferUnit.Sound.of_stream b rfl id
  · exact BufferUnit.Sound.of_stream b rfl fun _ => Nat.zero_le _
  · exact BufferUnit.Sound.of_stream b rfl id

end Buffers

end Sys2Proof.Machine
end

section
/-! PROOF. A step of a command through the block, and what it keeps: it joins the queue, leaves it for the active record or for its
completion, and is posted or discarded. Each of the promises is shown for each of these moves once. -/

namespace Sys2Proof.Machine

/-! ### Tags counted -/

/-- How often a tag is carried, place by place. -/
theorem State.count_carriedTags (s : State) (x : Tag) :
    s.carriedTags.count x =
      (s.cu.queue.map Command.tag).count x + (s.command.map Command.tag).toList.count x +
        (s.cmp.ring.map Completion.tag).count x + (s.cmp.held.map Completion.tag).toList.count x := by
  simp only [State.carriedTags, State.command, List.count_append, Option.map_map]
  rfl

/-- A placed record is carried once, and what it displaces from the held slot no more. -/
theorem CompletionUnit.count_place_le (c : CompletionUnit) (r : Completion) (x : Tag) :
    ((c.place r).ring.map Completion.tag).count x + ((c.place r).held.map Completion.tag).toList.count x ≤
      (c.ring.map Completion.tag).count x + (c.held.map Completion.tag).toList.count x + [r.tag].count x := by
  rcases c.place_cases r with ⟨-, e⟩ | ⟨-, e⟩
  · rw [e]
    simp only [List.map_append, List.count_append, List.map_cons, List.map_nil]
    omega
  · rw [e]
    simp only [Option.map_some, Option.toList_some]
    omega

theorem CompletionUnit.place_ok {c : CompletionUnit} (r : Completion) (h : c.ok) : (c.place r).ok := by
  obtain ⟨hl, hh⟩ := h
  rcases c.place_cases r with ⟨hlt, e⟩ | ⟨hge, e⟩
  · refine e ▸ ⟨by simpa using hlt, fun hs => ?_⟩
    exact absurd (hh hs) (Nat.ne_of_lt hlt)
  · exact e ▸ ⟨hl, fun _ => Nat.le_antisymm hl hge⟩

theorem CompletionUnit.pop_ok {c : CompletionUnit} (h : c.ok) : c.pop.ok := by
  obtain ⟨hl, hh⟩ := h
  rcases c.pop_cases with ⟨hr, e⟩ | ⟨r, rest, hr, e⟩
  · exact e.symm ▸ ⟨hl, hh⟩
  · rw [e]
    rw [hr] at hl hh
    refine ⟨?_, nofun⟩
    cases hd : c.held with
    | none => simp only [Option.toList_none, List.append_nil]; exact Nat.le_of_succ_le hl
    | some x =>
      have := hh (by simp [hd])
      simpa using this.le

/-- The tags given by `n + 1` GOs are those of the first `n` and the newest. -/
theorem tagsBefore_succ (k : Tag) (n : Nat) : tagsBefore (k + 1) (n + 1) = tagsBefore k n ++ [k] := by
  induction n with
  | zero => simp [tagsBefore]
  | succ n ih =>
    rw [tagsBefore, ih, tagsBefore, List.cons_append]
    congr 1
    rw [show BitVec.ofNat 4 (n + 1 + 1) = BitVec.ofNat 4 (n + 1) + 1 from BitVec.ofNat_add (n + 1) 1]
    exact add_sub_add_right_eq_sub _ _ _

/-- Fewer than sixteen GOs have not come round to the counter's tag. -/
theorem notMem_tagsBefore (k : Tag) (n : Nat) (h : n < 16) : k ∉ tagsBefore k n := by
  induction n with
  | zero => simp [tagsBefore]
  | succ n ih =>
    simp only [tagsBefore, List.mem_cons, not_or]
    refine ⟨fun e => ?_, ih (Nat.lt_of_succ_lt h)⟩
    have := congrArg BitVec.toNat e
    simp only [BitVec.toNat_sub, BitVec.toNat_ofNat] at this
    have := k.isLt
    omega

/-! ### Owners counted -/

/-- The command names the buffer. -/
def Command.owns (c : Command) (b : BufferId) : Bool := c.code.namesBuffer && decide (c.buffer = b)

theorem State.owners_length (s : State) (b : BufferId) :
    (s.owners b).length = s.cu.queue.countP (·.owns b) + s.command.toList.countP (·.owns b) := by
  rw [State.owners, ← List.countP_eq_length_filter, List.countP_append]
  rfl

theorem State.ownersOk_iff (s : State) :
    s.ownersOk ↔ ∀ b, s.cu.queue.countP (·.owns b) + s.command.toList.countP (·.owns b) =
      if (s.bu.buffer b).committed then 1 else 0 := by
  simp only [State.ownersOk, State.owners_length, Fin.forall_fin_two]

/-- A command's buffer returns to OPEN; a command that names none changes nothing (R170). -/
theorem BufferUnit.committed_releaseFor (bu : BufferUnit) (c : Command) (b : BufferId) :
    ((bu.releaseFor c).buffer b).committed = (!c.owns b && (bu.buffer b).committed) := by
  unfold BufferUnit.releaseFor Command.owns
  cases c.code.namesBuffer
  · simp
  · by_cases h : b = c.buffer
    · subst h; simp [BufferUnit.release, BufferUnit.buffer, BufferUnit.setBuffer]
    · simp [BufferUnit.release, BufferUnit.buffer, BufferUnit.setBuffer, PerBuffer.get_set_other _ _ h, Ne.symm h]

/-- A release touches the mark alone. -/
theorem BufferUnit.buffer_releaseFor (bu : BufferUnit) (c : Command) (b : BufferId) :
    (bu.releaseFor c).buffer b = { bu.buffer b with committed := !c.owns b && (bu.buffer b).committed } := by
  rw [← bu.committed_releaseFor]
  unfold BufferUnit.releaseFor
  split
  · by_cases h : b = c.buffer
    · subst h; simp [BufferUnit.release, BufferUnit.buffer, BufferUnit.setBuffer]
    · simp [BufferUnit.release, BufferUnit.buffer, BufferUnit.setBuffer, PerBuffer.get_set_other _ _ h]
  · rfl

@[simp] theorem BufferUnit.stream_releaseFor (bu : BufferUnit) (c : Command) : (bu.releaseFor c).stream = bu.stream := by
  unfold BufferUnit.releaseFor
  split <;> rfl

@[simp] theorem BufferUnit.delivery_releaseFor (bu : BufferUnit) (c : Command) : (bu.releaseFor c).delivery = bu.delivery := by
  unfold BufferUnit.releaseFor
  split <;> rfl

@[simp] theorem BufferUnit.select_releaseFor (bu : BufferUnit) (c : Command) : (bu.releaseFor c).select = bu.select := by
  unfold BufferUnit.releaseFor
  split <;> rfl

@[simp] theorem BufferUnit.dma_releaseFor (bu : BufferUnit) (c : Command) : (bu.releaseFor c).dma = bu.dma := by
  unfold BufferUnit.releaseFor
  split <;> rfl

/-- The posting of a command releases its buffer, and the stream queue stands or is emptied (R170, R178, R179). -/
theorem BufferUnit.atPosting_cases (bu : BufferUnit) (c : Command) (queue : List Command) :
    (bu.atPosting c queue).1.buffers = (bu.releaseFor c).buffers ∧
      ((bu.atPosting c queue).1.stream = bu.stream ∨ (bu.atPosting c queue).1.stream = []) := by
  unfold BufferUnit.atPosting BufferUnit.settleDelivery BufferUnit.emptyStream
  dsimp only
  repeat' split
  all_goals simp

theorem BufferUnit.buffer_atPosting (bu : BufferUnit) (c : Command) (queue : List Command) (b : BufferId) :
    (bu.atPosting c queue).1.buffer b = { bu.buffer b with committed := !c.owns b && (bu.buffer b).committed } := by
  rw [← bu.buffer_releaseFor, BufferUnit.buffer, (bu.atPosting_cases c queue).1]
  rfl

/-! ### The promises kept -/

/-- The five promises that no course of an operation enters into, and the waiting commands, are kept. -/
structure Keeps (s t : State) : Prop where
  pending : t.pending = s.pending
  capacity : s.capacityOk → t.capacityOk
  catalogues : s.cataloguesOk → t.cataloguesOk
  profiles : s.profilesOk → t.profilesOk
  tags : s.tagsOk → t.tagsOk
  owners : s.ownersOk → t.ownersOk

/-- The blocks' own limits, apart from queue and completions, are kept: what each move of a command needs of the rest of the state. -/
structure Within (s t : State) : Prop where
  pending : t.pending = s.pending
  discards : s.hw.discards ≤ Config.discardLimit → t.hw.discards ≤ Config.discardLimit
  window : s.vu.window.length ≤ Config.windowSize → t.vu.window.length ≤ Config.windowSize
  buffers : ∀ b, (s.bu.buffer b).ok → (t.bu.buffer b).ok
  stream : s.bu.stream.length ≤ Config.streamSize → t.bu.stream.length ≤ Config.streamSize
  catalogues : ∀ u, (s.catalogue u).ok → (t.catalogue u).ok
  profiles : ∀ u, headDistanceOk (s.link u).profile.headDistance → headDistanceOk (t.link u).profile.headDistance

section Keeps
variable {s t r : State}

theorem Keeps.refl (s : State) : Keeps s s := ⟨rfl, id, id, id, id, id⟩

theorem Keeps.trans (h : Keeps s t) (k : Keeps t r) : Keeps s r :=
  ⟨k.pending.trans h.pending, k.capacity ∘ h.capacity, k.catalogues ∘ h.catalogues, k.profiles ∘ h.profiles,
    k.tags ∘ h.tags, k.owners ∘ h.owners⟩

theorem Untouched.within (h : Untouched s t) : Within s t :=
  ⟨h.pending, h.discards, h.window, h.buffers, h.stream, h.catalogues, fun u => by rw [h.profiles u]; exact id⟩

theorem Within.trans (h : Within s t) (k : Within t r) : Within s r :=
  ⟨k.pending.trans h.pending, k.discards ∘ h.discards, k.window ∘ h.window, fun b => k.buffers b ∘ h.buffers b,
    k.stream ∘ h.stream, fun u => k.catalogues u ∘ h.catalogues u, fun u => k.profiles u ∘ h.profiles u⟩

theorem Within.setCu (s : State) (x : CommandUnit) : Within s (s.setCu x) :=
  ⟨rfl, id, id, fun _ => id, id, fun _ => id, fun _ => id⟩

/-- The limits of the blocks, the queue's and the completions' own said apart. -/
theorem Within.capacity (h : Within s t) (hq : s.capacityOk → t.cu.queue.length ≤ Config.queueSize)
    (hc : s.cmp.ok → t.cmp.ok) (hs : s.capacityOk) : t.capacityOk :=
  have ⟨_, hcmp, h0, h1, hst, hw, hd⟩ := hs
  ⟨hq hs, hc hcmp, h.buffers 0 h0, h.buffers 1 h1, h.stream hst, h.window hw, h.discards hd⟩

theorem Within.cataloguesOk (h : Within s t) : s.cataloguesOk → t.cataloguesOk :=
  fun ⟨h0, h1, h2, h3⟩ => ⟨h.catalogues 0 h0, h.catalogues 1 h1, h.catalogues 2 h2, h.catalogues 3 h3⟩

theorem Within.profilesOk (h : Within s t) (hq : ∀ c ∈ t.cu.queue, c ∈ s.cu.queue) : s.profilesOk → t.profilesOk :=
  fun ⟨h0, h1, h2, h3, hc⟩ =>
    ⟨h.profiles 0 h0, h.profiles 1 h1, h.profiles 2 h2, h.profiles 3 h3, fun c hm => hc c (hq c hm)⟩

/-- The carried tags are some of those carried before, and the queue a later part of the queue. -/
theorem State.tagsOk.of_le (hq : ∃ gone, s.cu.queue = gone ++ t.cu.queue) (hk : t.cu.tagCounter = s.cu.tagCounter)
    (hle : ∀ x, t.carriedTags.count x ≤ s.carriedTags.count x) (h : s.tagsOk) : t.tagsOk := by
  obtain ⟨hn, hl, ht⟩ := h
  obtain ⟨gone, hg⟩ := hq
  refine ⟨List.nodup_iff_count_le_one.mpr fun x => (hle x).trans (List.nodup_iff_count_le_one.mp hn x), ?_, ?_⟩
  · rw [hg, List.length_append] at hl; omega
  · rw [hk]
    rw [hg] at ht
    clear hg hl hle
    induction gone with
    | nil => exact ht
    | cons c gone ih => exact ih (List.cons.inj ht).2

/-- What leaves the command side as it stands keeps all five. -/
theorem Calm.keeps (h : Calm s t) : Keeps s t where
  pending := h.pending
  capacity := h.within.capacity (fun hs => h.cu ▸ hs.1) (fun hs => h.cmp ▸ hs)
  catalogues := h.within.cataloguesOk
  profiles := h.within.profilesOk fun c hc => h.cu ▸ hc
  tags := State.tagsOk.of_le ⟨[], by rw [h.cu]; rfl⟩ (by rw [h.cu])
    fun x => by rw [State.count_carriedTags, State.count_carriedTags, h.cu, h.cmp, h.command]
  owners hs := by
    rw [State.ownersOk_iff] at hs ⊢
    intro b
    rw [h.cu, h.command, h.committed]
    exact hs b

/-- A command leaves the place it had, in the active record or at the head of the queue, for its completion. -/
theorem Keeps.of_posted {c : Command} {rec : Completion} (h : Within s t) (htag : rec.tag = c.tag)
    (hplace : (s.command = some c ∧ t.cu = s.cu) ∨
      (s.command = none ∧ ∃ rest, s.cu.queue = c :: rest ∧ t.cu = { s.cu with queue := rest }))
    (hcmd : t.command = none) (hcmp : t.cmp = s.cmp.place rec)
    (hb : ∀ b, (t.bu.buffer b).committed = (!c.owns b && (s.bu.buffer b).committed)) : Keeps s t := by
  have hqueue : ∃ gone, s.cu.queue = gone ++ t.cu.queue ∧ t.cu.tagCounter = s.cu.tagCounter ∧
      gone ++ s.command.toList = [c] := by
    rcases hplace with ⟨hs, ht⟩ | ⟨hs, rest, hq, ht⟩
    · exact ⟨[], by rw [ht]; rfl, by rw [ht], by rw [hs]; rfl⟩
    · exact ⟨[c], by rw [ht, hq]; rfl, by rw [ht], by rw [hs]; rfl⟩
  obtain ⟨gone, hg, hk, hgone⟩ := hqueue
  refine ⟨h.pending, h.capacity (fun hs => ?_) (fun hs => hcmp ▸ CompletionUnit.place_ok rec hs), h.cataloguesOk,
    h.profilesOk fun x hx => by rw [hg]; exact List.mem_append_right _ hx,
    State.tagsOk.of_le ⟨gone, hg⟩ hk fun x => ?_, fun hs => ?_⟩
  · have := hs.1
    rw [hg, List.length_append] at this
    omega
  · have hp := CompletionUnit.count_place_le s.cmp rec x
    have hl : (gone.map Command.tag).count x + (s.command.map Command.tag).toList.count x = [rec.tag].count x := by
      rw [htag, ← List.count_append]
      have := congrArg (List.map Command.tag) hgone
      rw [List.map_append] at this
      rw [show (s.command.map Command.tag).toList = s.command.toList.map Command.tag by cases s.command <;> rfl, this]
      rfl
    rw [State.count_carriedTags, State.count_carriedTags, hcmp, hcmd, hg, List.map_append, List.count_append]
    simp only [Option.map_none, Option.toList_none, List.count_nil]
    omega
  · rw [State.ownersOk_iff] at hs ⊢
    intro b
    have hsb := hs b
    have hl : gone.countP (·.owns b) + s.command.toList.countP (·.owns b) = if c.owns b then 1 else 0 := by
      rw [← List.countP_append, hgone, List.countP_singleton]
    rw [hg, List.countP_append] at hsb
    rw [hcmd, hb b]
    cases hc : c.owns b <;> cases hm : (s.bu.buffer b).committed <;>
      simp only [hc, hm, Bool.not_false, Bool.not_true, Bool.true_and, Bool.false_and, Bool.and_false, reduceIte,
        Bool.false_eq_true, Option.toList_none, List.countP_nil] at hl hsb ⊢ <;>
      omega

/-- The head of the queue becomes the active command. -/
theorem Keeps.of_begun {c : Command} {rest : List Command} (hq : s.cu.queue = c :: rest) (hs : s.command = none)
    (h : Untouched (s.setCu { s.cu with queue := rest }) t) (hcmd : t.command = some c) : Keeps s t := by
  have hcu : t.cu = { s.cu with queue := rest } := h.cu
  have hw : Within s t := (Within.setCu s _).trans h.within
  refine ⟨h.pending, hw.capacity (fun hs => ?_) (fun hs => h.cmp ▸ hs), hw.cataloguesOk,
    hw.profilesOk fun x hx => ?_, State.tagsOk.of_le ⟨[c], by rw [hcu, hq]; rfl⟩ (by rw [hcu]) fun x => ?_, fun ho => ?_⟩
  · have := hs.1
    rw [hq, List.length_cons] at this
    rw [hcu]
    exact Nat.le_of_succ_le this
  · rw [hcu] at hx
    rw [hq]
    exact List.mem_cons_of_mem c hx
  · have e : t.cmp = s.cmp := h.cmp
    rw [State.count_carriedTags, State.count_carriedTags, e, hcmd, hs, hq, hcu]
    simp only [List.map_cons, Option.map_some, Option.toList_some, Option.map_none, Option.toList_none, List.count_nil,
      List.count_cons]
    omega
  · rw [State.ownersOk_iff] at ho ⊢
    intro b
    have e : (t.bu.buffer b).committed = (s.bu.buffer b).committed := h.committed b
    rw [e, hcmd, hcu, ← ho b, hs, hq]
    simp only [Option.toList_some, Option.toList_none, List.countP_cons, List.countP_nil]
    omega

/-- The queue is emptied, and a command leaves the active record too if `gone`; the buffers of those that go are OPEN. -/
theorem Keeps.of_emptied (h : Within s t) (hq : t.cu = { s.cu with queue := [] })
    (hcmd : t.command = s.command ∨ t.command = none)
    (hcmp : t.cmp = s.cmp ∨ t.cmp = .reset)
    (hb : s.ownersOk → ∀ b, t.command.toList.countP (·.owns b) = if (t.bu.buffer b).committed then 1 else 0) :
    Keeps s t := by
  refine ⟨h.pending, h.capacity (fun _ => by rw [hq]; exact Nat.zero_le _) (fun hs => ?_), h.cataloguesOk,
    h.profilesOk fun x hx => by rw [hq] at hx; exact absurd hx List.not_mem_nil,
    State.tagsOk.of_le ⟨s.cu.queue, by rw [hq]; simp⟩ (by rw [hq]) fun x => ?_, fun ho => ?_⟩
  · rcases hcmp with e | e
    · exact e ▸ hs
    · exact e ▸ ⟨Nat.zero_le _, nofun⟩
  · rw [State.count_carriedTags, State.count_carriedTags, hq]
    rcases hcmd with e | e <;> rcases hcmp with e' | e' <;> simp [e, e', CompletionUnit.reset]; omega
  · rw [State.ownersOk_iff]
    intro b
    rw [hq, List.countP_nil, Nat.zero_add]
    exact hb ho b

end Keeps

end Sys2Proof.Machine
end

section
/-! PROOF. The operations that end no command: each is quiet, its blocks' updates one after the other. -/

namespace Sys2Proof.Machine

section Quiet
variable {s t : State} {a : Active}

/-- The active record takes a new value with the same command. -/
theorem Quiet.setOc {b : Active} (h : s.command = some b.cmd) : Quiet s (s.setOc (.active b)) := by
  obtain ⟨a, ha, hc⟩ := State.command_eq_some h
  exact Quiet.setActive ha hc.symm

theorem Quiet.active_of_command {c : Command} (h : Quiet s t) (hc : s.command = some c) : t.command = some c :=
  h.command.trans hc

/-- In an operation the timer may be set to any running count. -/
theorem Quiet.setTimer_of_command {c : Command} {x : PhaseTimer} (h : s.command = some c)
    (hx : s.timer.phase.isSome = true → x.phase.isSome = true) : Quiet s (s.setTimer x) := by
  obtain ⟨a, ha, -⟩ := State.command_eq_some h
  exact Quiet.setTimer (by simp [ha]) (by simp [ha]) hx

/-- A deadline taken away leaves a stopped timer stopped. -/
theorem Quiet.dropDeadline : Quiet s (s.setTimer { s.timer with deadline := none }) := by
  refine ⟨Calm.setTimer _, rfl, id, Iff.rfl, fun ⟨hi, hp, hs⟩ => ⟨fun e => ?_, hp, fun e => ⟨(hs e).1, rfl⟩⟩⟩
  simp only [State.setTimer_timer, hi e]
  rfl

theorem Quiet.ite {p : Prop} [Decidable p] {x y : State} (hx : Quiet s x) (hy : Quiet s y) : Quiet s (if p then x else y) := by
  split
  · exact hx
  · exact hy

/-! ### The catalogue and the unit -/

variable (s)

theorem placeForward_quiet (u : UnitId) (r : RecordInfo) (p : Bool) : Quiet s (placeForward u r p s) :=
  Quiet.ite ((Quiet.setCatalogue (Catalogue.passForward_ok _ r)).trans (Quiet.setNextOrdinal _ _)) (Quiet.refl s)

theorem placeReverse_quiet (u : UnitId) (r : RecordInfo) : Quiet s (placeReverse u r s) :=
  Quiet.ite ((Quiet.setCatalogue (Catalogue.passReverse_ok _ r)).trans (Quiet.setNextOrdinal _ _)) (Quiet.refl s)

theorem takeLoadPoint_quiet (u : UnitId) : Quiet s (takeLoadPoint u s) := Quiet.setCatalogue (Catalogue.atLoadPoint_ok _)

theorem truncateCatalogue_quiet (u : UnitId) : Quiet s (truncateCatalogue u s) := Quiet.setCatalogue (Catalogue.truncate_ok _)

theorem invalidate_quiet (u : UnitId) : Quiet s (invalidate u s) := Quiet.setCatalogue fun _ => Catalogue.unknown_ok

theorem raiseCause_quiet (k : Cause) (u : UnitId) : Quiet s (raiseCause k u s) := by
  have hl : Quiet s (s.setLink u { s.link u with causes := (s.link u).causes.raise k }) := Quiet.setLink rfl
  cases k
  · exact hl.trans (Quiet.setCatalogue fun _ => Catalogue.anchoredEmpty_ok)
  · exact hl.trans (invalidate_quiet _ u)
  · exact hl.trans ((Quiet.setCatalogue fun _ => Catalogue.anchoredEmpty_ok).trans (Quiet.setNextOrdinal _ _))
  · exact hl.trans (invalidate_quiet _ u)
  · exact hl
  · exact hl.trans (invalidate_quiet _ u)

/-- STOP and the motion requests touch the link's request, timers and unit state. -/
theorem sendMotion_quiet (u : UnitId) (r : MotionRequest) : Quiet s (sendMotion u r s) :=
  (Quiet.setUnitState u .ramping).trans (Quiet.setTlc (fun _ => rfl) rfl)

theorem sendStop_quiet : Quiet s (sendStop s) := by
  rcases sendStop_cases s with e | ⟨u, -, e⟩
  · rw [e]; exact Quiet.refl s
  · rw [e]; exact (Quiet.setUnitState u _).trans (Quiet.setTlc (fun _ => rfl) rfl)

/-! ### The reader -/

theorem stopReceiving_quiet : Quiet s (stopReceiving s) := Quiet.setFr _ _

theorem closeRecord_quiet (r : OpenRecord) (h : Header) (t : Trailer) (rev : Bool) :
    Quiet s (closeRecord r h t rev s).1 := by
  unfold closeRecord
  cases s.tlc.selected with
  | none => exact Quiet.setFr _ _
  | some u =>
    cases rev
    · exact (placeForward_quiet s u _ false).trans (Quiet.setFr _ _)
    · exact (placeReverse_quiet s u _).trans (Quiet.setFr _ _)

theorem breakForward_quiet (r : Run) : Quiet s (breakForward r s).1 := by
  unfold breakForward
  split
  · split
    · exact Quiet.refl s
    all_goals exact Quiet.setFr _ _
  · dsimp only
    split
    · exact Quiet.refl s
    · split <;> exact Quiet.setFr _ _
    all_goals exact (Quiet.setFr s _).trans (closeRecord_quiet _ _ _ _ _)

theorem breakReverse_quiet (r : Run) : Quiet s (breakReverse r s).1 := by
  unfold breakReverse
  dsimp only
  split
  · exact Quiet.refl s
  · split
    · exact Quiet.setFr _ _
    · split <;> exact Quiet.setFr _ _
  · split <;> exact Quiet.setFr _ _
  · split <;> exact (Quiet.setFr s _).trans (closeRecord_quiet _ _ _ _ _)

theorem breakClose_quiet : Quiet s (breakClose s).1 := by
  unfold breakClose
  split
  · split
    · exact breakForward_quiet _ _
    · exact (Quiet.setFr s _).trans (breakForward_quiet _ _)
  · exact (Quiet.setFr s _).trans (breakReverse_quiet _ _)
  · exact Quiet.refl s

theorem breakOpen_quiet : Quiet s (breakOpen s) := by
  unfold breakOpen
  split
  · split <;> exact Quiet.setFr _ _
  · exact Quiet.setFr _ _

theorem handOpenFrame_quiet : Quiet s (handOpenFrame s) := by
  rcases handOpenFrame_cases s with e | ⟨x, r, rev, -, -, -, -, e⟩ <;> rw [e]
  · exact Quiet.refl s
  · exact Quiet.setFr s _

/-- A void's bytes discarded, the command of the record stands. -/
theorem discardVoid_quiet (a : Active) (r : CloseReport) : Quiet s (discardVoid a r s).2 := by
  rcases discardVoid_cases s a r with e | ⟨-, -, -, -, e⟩ <;> rw [e]
  · exact Quiet.refl s
  · exact Quiet.setBu (BufferUnit.Sound.setFill_zero _ _)

theorem discardVoid_cmd (a : Active) (r : CloseReport) : (discardVoid a r s).1.cmd = a.cmd := by
  rcases discardVoid_cases s a r with e | ⟨-, -, -, -, e⟩ <;> rw [e]

theorem noteClose_quiet (p : ParseReport) : Quiet s (noteClose p s) := by
  rcases noteClose_cases s p with e | ⟨r, a, -, ha, e⟩
  · rw [e]; exact Quiet.refl s
  · rw [e]
    have hd := discardVoid_quiet s (creditClose a r) r
    have hr : Quiet s (if r.received then stopReceiving (discardVoid (creditClose a r) r s).2
        else (discardVoid (creditClose a r) r s).2) := Quiet.ite (hd.trans (stopReceiving_quiet _)) hd
    refine hr.trans (Quiet.setOc ?_)
    rw [hr.command, State.command_of_active ha]
    exact congrArg some ((discardVoid_cmd s _ r).trans (creditClose_cmd a r)).symm

theorem readerAtStop_quiet (m : ReaderMode) : Quiet s (readerAtStop m s) :=
  (handOpenFrame_quiet s).trans <| (breakClose_quiet _).trans <| (noteClose_quiet _ _).trans <|
    (breakOpen_quiet _).trans (Quiet.setFr _ _)

theorem readerAtEvent_quiet : Quiet s (readerAtEvent s) := by
  unfold readerAtEvent
  split
  · have hb := (breakOpen_quiet _).after <| (noteClose_quiet _ (breakClose (handOpenFrame s)).2).after <|
      (breakClose_quiet _).after (handOpenFrame_quiet s)
    refine hb.trans ?_
    dsimp only
    split
    · exact Quiet.refl _
    · split
      · exact Quiet.setFr _ _
      · split
        · exact (closeRecord_quiet _ _ _ _ _).trans (noteClose_quiet _ _)
        · exact Quiet.setFr _ _
  · exact Quiet.refl s

/-! ### Copies -/

theorem endCopy_quiet (a : Active) (e : CopyEnding) : Quiet s (endCopy a e s) := by
  unfold endCopy
  split
  · exact Quiet.refl s
  · exact Quiet.after (placeForward_quiet _ _ _ _) (Quiet.setFw id)

theorem VerifyUnit.endOfWrite_window (v : VerifyUnit) : v.endOfWrite.window.length ≤ v.window.length := by
  unfold VerifyUnit.endOfWrite
  split
  · exact le_rfl
  all_goals exact Nat.zero_le _

theorem VerifyUnit.skipNotice_window (v : VerifyUnit) : v.skipNotice.window.length ≤ v.window.length := by
  unfold VerifyUnit.skipNotice
  split
  · exact v.endOfWrite_window
  · exact le_rfl

theorem dropGate_quiet : Quiet s (dropGate s) := by
  unfold dropGate
  split
  · dsimp only
    have hg : Quiet s (s.setFw { s.fw with gate := false, watch := none }) := Quiet.setFw nofun
    split
    · refine hg.trans ?_
      split
      · exact Quiet.after (Quiet.setVu (VerifyUnit.endOfWrite_window _).trans) (Quiet.setFw id)
      · exact Quiet.setVu (VerifyUnit.endOfWrite_window _).trans
    · exact hg
  · exact Quiet.refl s

theorem dropGateAndReport_quiet : Quiet s (dropGateAndReport s) := by
  unfold dropGateAndReport
  dsimp only
  refine (dropGate_quiet s).trans ?_
  split
  · split
    · exact endCopy_quiet _ _ _
    · exact Quiet.refl _
  · exact Quiet.refl _

theorem describeCommitted_quiet : Quiet s (describeCommitted s) := by
  unfold describeCommitted
  split
  · split
    · exact endCopy_quiet _ _ _
    · exact Quiet.refl _
  · exact Quiet.refl _

/-! ### Writing -/

theorem writeFrame_quiet (v : Lanes) (role : FrameRole) (n : Nat) (verified : Bool) :
    Quiet s (writeFrame v role n verified s) := by
  unfold writeFrame
  dsimp only
  split
  · exact Quiet.after (Quiet.setVu (VerifyUnit.push_length _ _)) (Quiet.setFw id)
  · exact Quiet.setFw id

variable {s}

theorem enterPhase_quiet (h : s.command = some a.cmd) (p : Phase) (n : Option Nat) : Quiet s (enterPhase a p n s) :=
  have ho : Quiet s (s.setOc (.active { a with phase := p })) := Quiet.setOc h
  ho.trans (Quiet.setTimer_of_command (ho.active_of_command h) fun _ => rfl)

theorem beginCopy_quiet (h : s.command = some a.cmd) : Quiet s (beginCopy a s) := by
  unfold beginCopy
  dsimp only
  exact Quiet.after (writeFrame_quiet _ _ _ _ _) <| Quiet.after (Quiet.setFw id) (enterPhase_quiet (by exact h) _ _)

theorem endHeaderRun_quiet (h : s.command = some a.cmd) (n : Nat) : Quiet s (endHeaderRun a n s) :=
  have hp := enterPhase_quiet h .checkSpace (some Config.checkSpacing)
  hp.trans (Quiet.setTimer_of_command (hp.active_of_command h) fun _ => rfl)

theorem cutRun_quiet (h : s.command = some a.cmd) (c : CutCause) (n : Nat) : Quiet s (cutRun a c n s) := by
  unfold cutRun
  dsimp only
  have hv : Quiet s ((s.setFw { s.fw with account := s.fw.account.map fun x => { x with cut := some c } }).setVu
      s.vu.skipNotice) :=
    Quiet.after (Quiet.setVu (VerifyUnit.skipNotice_window _).trans) (Quiet.setFw id)
  exact hv.trans (endHeaderRun_quiet (a := { a with skipped := true }) (hv.active_of_command h) n)

/-- The Buffer Unit a data frame leaves: as it was, or the stream queue shorter. -/
theorem dataByte_sound {src : CopySource} {k : Nat} {v : Byte} {bu : BufferUnit} (h : dataByte src k s = some (v, bu)) :
    s.bu.Sound bu := by
  unfold dataByte at h
  split at h
  · cases h; exact BufferUnit.Sound.of_stream _ rfl id
  · split at h
    · cases h
    · rename_i w rest hst
      cases h
      exact BufferUnit.Sound.of_stream _ rfl fun hl => by rw [hst] at hl; exact Nat.le_of_succ_le hl
  · cases h; exact BufferUnit.Sound.of_stream _ rfl id

theorem writeRunFrame_quiet (h : s.command = some a.cmd) : Quiet s (writeRunFrame a s) := by
  unfold writeRunFrame
  split
  · exact Quiet.refl s
  · dsimp only
    split
    · have hf := fun v n => writeFrame_quiet s v .header n true
      exact Quiet.ite ((hf _ _).trans (endHeaderRun_quiet ((hf _ _).active_of_command h) 0)) (hf _ _)
    · split
      · exact cutRun_quiet h _ _
      · rename_i v bu hd
        have hf := fun n => (Quiet.setBu (dataByte_sound hd)).trans (writeFrame_quiet (s.setBu bu) (frameOf v) .data n true)
        exact Quiet.ite ((hf _).trans (endHeaderRun_quiet ((hf _).active_of_command h) 0)) (hf _)

theorem orderTrailer_quiet (h : s.command = some a.cmd) (k : TrailerKind) (o : CmdOutcome) :
    Quiet s (orderTrailer a k o s) :=
  (enterPhase_quiet (a := { a with voidOutcome := o }) h _ _).trans Quiet.dropDeadline

theorem takeCopyVerdict_quiet (pass soft : Bool) : Quiet s (takeCopyVerdict pass soft s) := by
  unfold takeCopyVerdict
  split
  · rename_i a ha
    have h := State.command_of_active ha
    exact Quiet.ite (orderTrailer_quiet (a := { a with verdict := some (pass, soft) }) h _ _)
      (orderTrailer_quiet (a := { a with verdict := some (pass, soft) }) h _ _)
  · exact Quiet.refl s

theorem afterLcf_quiet (h : s.command = some a.cmd) : Quiet s (afterLcf a s) := by
  unfold afterLcf
  split
  · dsimp only
    have ho : ∀ o, Quiet s (s.setOc (.active { a with phase := .trailer .void, voidOutcome := o })) :=
      fun o => Quiet.setOc h
    exact (ho _).trans (Quiet.setTimer_of_command ((ho _).active_of_command h) id)
  · exact enterPhase_quiet h _ _

theorem lcfTaken_quiet (s : State) : Quiet s (lcfTaken s) := by
  unfold lcfTaken
  split
  · split
    · exact afterLcf_quiet (State.command_of_active ‹_›)
    · exact Quiet.refl s
  · exact Quiet.refl s

theorem writeTrailerFirst_quiet (s : State) (k : TrailerKind) : Quiet s (writeTrailerFirst k s) :=
  Quiet.after (writeFrame_quiet _ _ _ _ _) (Quiet.setFw id)

theorem takeEcho_quiet (s : State) : Quiet s (takeEcho s) := by
  unfold takeEcho
  split
  · exact Quiet.refl s
  · dsimp only
    split
    · exact Quiet.after (lcfTaken_quiet _) <| Quiet.after (Quiet.setFw id) (Quiet.setFw id)
    · exact Quiet.setFw id

/-! ### Reading -/

theorem openFrame_quiet (s : State) (lane : Lane) (strong : Bool) : Quiet s (openFrame lane strong s) := by
  unfold openFrame
  dsimp only
  split <;> exact Quiet.setFr _ _

theorem deliverByte_quiet (h : s.command = some a.cmd) (r : Run) (n : Nat) (v : Byte) : Quiet s (deliverByte a r n v s) := by
  unfold deliverByte
  split
  · split
    · exact Quiet.refl s
    · split
      · refine Quiet.after (Quiet.setOc h) (Quiet.setBu (BufferUnit.Sound.setBuffer ?_ ?_))
        · exact RecordBuffer.storeRecordByte_committed _ _
        · exact RecordBuffer.storeRecordByte_ok v
      · split
        · refine Quiet.after (Quiet.setOc h) (Quiet.setBu (BufferUnit.Sound.of_stream _ rfl fun _ => ?_))
          simpa using ‹_ < Config.streamSize›
        · exact Quiet.after (Quiet.setOc h) (Quiet.setFr _ _)
      · exact Quiet.refl s
  · exact Quiet.setFr _ _

theorem joinRun_quiet (s : State) (f : ReadFrame) : Quiet s (joinRun f s) := by
  unfold joinRun
  dsimp only
  split
  · split
    · exact Quiet.after (deliverByte_quiet (State.command_of_active ‹_›) _ _ _) (Quiet.setFr _ _)
    · exact Quiet.setFr _ _
  · exact Quiet.setFr _ _

theorem State.mapActive_quiet (s : State) {f : Active → Active} (hf : ∀ a, (f a).cmd = a.cmd) :
    Quiet s (match s.oc with | .active a => s.setOc (.active (f a)) | _ => s) := by
  split
  · rename_i a ha
    exact Quiet.setActive ha (hf a)
  · exact Quiet.refl s

theorem turnToReverse_quiet (s : State) : Quiet s (turnToReverse s) := by
  unfold turnToReverse
  dsimp only
  have hr : Quiet s ((readerAtStop (.parse true) s).setFw { (readerAtStop (.parse true) s).fw with gate := false }) :=
    Quiet.after (Quiet.setFw nofun) (readerAtStop_quiet s _)
  refine hr.trans ?_
  generalize State.setFw _ _ = r
  have hturn := fun q : State => q.mapActive_quiet (f := fun a => { a with reverse := true, phase := .turnRamp }) fun _ => rfl
  cases r.tlc.selected with
  | some u => exact (sendMotion_quiet r u .reverse).trans (hturn _)
  | none => exact hturn r

theorem enterTurn_quiet (h : s.command = some a.cmd) : Quiet s (enterTurn a s) := by
  unfold enterTurn
  dsimp only
  have hp : Quiet s (sendStop (enterPhase a .turnStop none (s.setFr { s.fr with search := none }))) :=
    Quiet.after (sendStop_quiet _) <| Quiet.after (enterPhase_quiet (by exact h) _ _) (Quiet.setFr s _)
  exact Quiet.ite hp (hp.trans (turnToReverse_quiet _))

theorem syncPhase_quiet (s : State) : Quiet s (syncPhase s) := by
  rcases syncPhase_cases s with e | ⟨a, ha, -, -, e⟩ | ⟨a, ha, -, -, e⟩ <;> rw [e]
  · exact Quiet.refl s
  all_goals exact enterPhase_quiet (State.command_of_active ha) _ _

theorem requestLostByte_quiet (s : State) : Quiet s (requestLostByte s) := by
  rcases requestLostByte_cases s with e | ⟨-, -, e⟩ <;> rw [e]
  · exact Quiet.refl s
  · refine Quiet.setBu (BufferUnit.Sound.of_stream _ rfl fun h => ?_)
    exact (List.length_drop ▸ Nat.sub_le _ 1).trans h

theorem enterParse_quiet (s : State) : Quiet s (enterParse s) := by
  unfold enterParse
  split
  · exact Quiet.ite (Quiet.setFr _ _) (Quiet.refl s)
  · exact Quiet.refl s

theorem countTick_quiet (s : State) : Quiet s (countTick s) :=
  Quiet.after (Quiet.setFw id) <| Quiet.after (Quiet.setFr _ _) Quiet.tick

theorem abortInRecord_quiet (h : s.command = some a.cmd) : Quiet s (abortInRecord a s) :=
  Quiet.after (Quiet.setFr _ _) (Quiet.setOc h)

end Quiet

end Sys2Proof.Machine
end

section
/-! PROOF. The operations that start or end a command, the control reset, and the rows: each keeps the promises. -/

namespace Sys2Proof.Machine

/-- All promises are kept, the course of an operation (R44) among them. -/
structure Preserves (s t : State) : Prop extends Keeps s t where
  course : s.operationOk → t.operationOk

section Preserves
variable {s t r : State}

theorem Preserves.refl (s : State) : Preserves s s := ⟨Keeps.refl s, id⟩

theorem Preserves.trans (h : Preserves s t) (k : Preserves t r) : Preserves s r :=
  ⟨h.toKeeps.trans k.toKeeps, k.course ∘ h.course⟩

/-- `Preserves.trans` with its second part first. -/
theorem Preserves.after (k : Preserves t r) (h : Preserves s t) : Preserves s r := h.trans k

theorem Preserves.ite {p : Prop} [Decidable p] {x y : State} (hx : Preserves s x) (hy : Preserves s y) :
    Preserves s (if p then x else y) := by
  split
  · exact hx
  · exact hy

theorem State.timerOk_of_operationOk (h : s.operationOk) : s.timerOk := ⟨h.2.2.1, h.2.2.2.1, h.2.2.2.2.1⟩

theorem State.active_isSome : s.active.isSome = true ↔ s.command.isSome = true := by simp [State.command]

theorem Quiet.course (h : Quiet s t) (hs : s.operationOk) : t.operationOk := by
  obtain ⟨hsel, hgate, -, -, -, hheld⟩ := id hs
  obtain ⟨hi, hp, hst⟩ := h.timer (State.timerOk_of_operationOk hs)
  refine ⟨?_, fun hg => ?_, hi, hp, hst, fun ha => ?_⟩
  · rw [h.selected, h.idle]; exact hsel
  · rw [h.selected]; exact hgate (h.gate hg)
  · rw [h.cmp]
    refine hheld (State.active_isSome.mpr ?_)
    rwa [← h.command, ← State.active_isSome]

theorem Quiet.preserves (h : Quiet s t) : Preserves s t := ⟨h.toCalm.keeps, h.course⟩

end Preserves

/-! ### A posting -/

section Post
variable (s : State) (c : Command) (rec : Completion)

theorem post_cmp : ∃ r : Completion, r.tag = rec.tag ∧ (post c rec s).cmp = s.cmp.place r := by
  refine ⟨_, ?_, rfl⟩
  split <;> rfl

theorem post_buffer (b : BufferId) :
    (post c rec s).bu.buffer b = { s.bu.buffer b with committed := !c.owns b && (s.bu.buffer b).committed } :=
  s.bu.buffer_atPosting c s.cu.queue b

theorem post_stream : (post c rec s).bu.stream = s.bu.stream ∨ (post c rec s).bu.stream = [] :=
  (s.bu.atPosting_cases c s.cu.queue).2

theorem post_within : Within s (post c rec s) := by
  refine ⟨rfl, id, id, fun b => ?_, fun h => ?_, fun _ => id, fun _ => id⟩
  · rw [post_buffer]; exact id
  · rcases post_stream s c rec with e | e <;> rw [e]
    · exact h
    · exact Nat.zero_le _

variable {s c rec}

theorem State.command_eq_none : s.command = none ↔ ∀ a, s.oc ≠ .active a := by
  rw [← State.active_eq_none, State.command, Option.map_eq_none_iff]

/-- The active command is posted and leaves the active record. -/
theorem Keeps.posted {x : Operation} (h : s.command = some c) (hx : ∀ a, x ≠ .active a) (ht : rec.tag = c.tag) :
    Keeps s ((post c rec s).setOc x) := by
  obtain ⟨r, hr, hcmp⟩ := post_cmp s c rec
  refine Keeps.of_posted (c := c) (rec := r) ((post_within s c rec).trans (Untouched.setOc _ x).within) (hr.trans ht)
    (.inl ⟨h, rfl⟩) (State.command_eq_none.mpr hx) hcmp fun b => ?_
  exact congrArg RecordBuffer.committed (post_buffer s c rec b)

/-- The head of the queue is posted as it leaves it. -/
theorem Keeps.postedHead {u : State} {rest : List Command} (hq : s.cu.queue = c :: rest) (hs : s.command = none)
    (hu : Untouched (s.setCu { s.cu with queue := rest }) u) (hcmd : u.command = none) (ht : rec.tag = c.tag) :
    Keeps s (post c rec u) := by
  obtain ⟨r, hr, hcmp⟩ := post_cmp u c rec
  refine Keeps.of_posted (c := c) (rec := r) (((Within.setCu s _).trans hu.within).trans (post_within u c rec)) (hr.trans ht)
    (.inr ⟨hs, rest, hq, hu.cu⟩) hcmd (hcmp.trans (congrArg (·.place r) hu.cmp)) fun b => ?_
  exact (congrArg RecordBuffer.committed (post_buffer u c rec b)).trans (by rw [hu.committed b]; rfl)

end Post

/-! ### The stop and the control reset -/

section Ends
variable (s : State)

theorem releaseUnit_calm : Calm s (releaseUnit s) :=
  Calm.after (Calm.setFw _) (Calm.setTlc fun _ => rfl)

theorem enterIdle_calm (h : s.command = none) : Calm s (enterIdle s) :=
  ⟨(Untouched.setOc s _).trans (Calm.setTimer _).toUntouched, h.symm⟩

theorem stopDone_calm (h : s.command = none) : Calm s (stopDone s) := by
  have hr := (readerAtStop_quiet s .idle).toCalm.trans (releaseUnit_calm _)
  exact hr.trans (enterIdle_calm _ (hr.command.trans h))

/-- STOPPING, whatever it follows: the selected unit's stop runs, or everything is at rest. -/
theorem enterStopping_course : (enterStopping s).operationOk := by
  rcases enterStopping_cases s with ⟨hr, e⟩ | ⟨-, e⟩
  · rw [e]
    have hsel : s.tlc.selected ≠ none := fun h => by simp [State.stopRunning, h] at hr
    exact ⟨⟨fun h => absurd h hsel, nofun⟩, fun _ => hsel, nofun, fun h => absurd rfl h.2, fun _ => ⟨rfl, rfl⟩, nofun⟩
  · rw [e]
    exact ⟨⟨fun _ => rfl, fun _ => rfl⟩, nofun, fun _ => rfl, fun h => absurd rfl h.1, nofun, nofun⟩

theorem enterIdle_course (hsel : s.tlc.selected = none) (hg : s.fw.gate = false) : (enterIdle s).operationOk :=
  ⟨⟨fun _ => rfl, fun _ => hsel⟩, fun h => by simp [hg] at h, fun _ => rfl, fun h => absurd rfl h.1, nofun, nofun⟩

/-- What follows STOPPING, with no command active. -/
theorem enterStopping_calm (h : s.command = none) : Calm s (enterStopping s) := by
  have hs : Calm s ((s.setOc .stopping).setTimer s.timer.atStop) :=
    ⟨(Untouched.setOc s _).trans (Calm.setTimer _).toUntouched, h.symm⟩
  rcases enterStopping_cases s with ⟨-, e⟩ | ⟨-, e⟩ <;> rw [e]
  · exact hs
  · exact hs.trans (stopDone_calm _ rfl)

theorem enterStopping_preserves (h : s.command = none) : Preserves s (enterStopping s) :=
  ⟨(enterStopping_calm s h).keeps, fun _ => enterStopping_course s⟩

theorem clearCommandSide_within : Within s (clearCommandSide s) := by
  refine ⟨rfl, fun _ => Nat.zero_le _, fun _ => Nat.zero_le _, fun b => ?_, fun _ => Nat.zero_le _, fun _ => id, fun _ => id⟩
  fin_cases b <;> exact id

theorem committed_clearCommandSide (b : BufferId) : ((clearCommandSide s).bu.buffer b).committed = false := by
  fin_cases b <;> rfl

/-- A control reset leaves no command anywhere. -/
theorem controlResetEffect_keeps : Keeps s (controlResetEffect s) := by
  have hd := describeCommitted_quiet s
  have hst := sendStop_quiet (clearCommandSide (describeCommitted s))
  unfold controlResetEffect
  generalize hu : (sendStop (clearCommandSide (describeCommitted s))).setTimer .stopped = u
  have hcalm : Calm (clearCommandSide (describeCommitted s)) u := hu ▸ hst.toCalm.trans (Calm.setTimer _)
  have ho : Untouched u ((u.setOc .stopping).setTimer u.timer.atStop) :=
    (Untouched.setOc u .stopping).trans (Calm.setTimer _).toUntouched
  have hstop : Keeps s ((u.setOc .stopping).setTimer u.timer.atStop) := by
    refine Keeps.of_emptied (hd.within.trans ((clearCommandSide_within _).trans
      (hcalm.within.trans ho.within))) ?_ (.inr rfl)
      (.inr hcalm.cmp) fun _ b => ?_
    · exact hcalm.cu.trans (congrArg (fun q : CommandUnit => { q with queue := [] }) hd.cu)
    · have hb : (u.bu.buffer b).committed = false := (hcalm.committed b).trans (committed_clearCommandSide _ b)
      change _ = if (u.bu.buffer b).committed then 1 else 0
      rw [hb]
      rfl
  rcases enterStopping_cases u with ⟨-, e⟩ | ⟨-, e⟩ <;> rw [e]
  · exact hstop
  · exact hstop.trans (stopDone_calm _ rfl).keeps

theorem controlResetEffect_preserves : Preserves s (controlResetEffect s) :=
  ⟨controlResetEffect_keeps s, fun _ => enterStopping_course _⟩

theorem takeDueReset_preserves : Preserves s (takeDueReset s) :=
  Preserves.ite (controlResetEffect_preserves s) (Preserves.refl s)

variable {s} {a : Active}

/-- The active command is posted, and the active record is left for this mode. -/
theorem postActive_keeps {x : Operation} (h : s.command = some a.cmd) (hx : ∀ b, x ≠ .active b) (o : CmdOutcome) :
    Keeps s ((postActive a o s).setOc x) :=
  (Keeps.posted h hx (congrArg Command.tag (Active.withOpenRecord_cmd a s.fr))).trans (Quiet.setFr _ _).toCalm.keeps

theorem conclude_keeps (h : s.command = some a.cmd) (o : CmdOutcome) (e : Ending) : Keeps s (conclude a o e s) := by
  rcases conclude_cases s a o e with ⟨-, hc⟩ | ⟨-, hc⟩ <;> rw [hc]
  · exact controlResetEffect_keeps s
  · cases e with
    | finish n => exact (postActive_keeps h (by simp) o).trans (Calm.setTimer _).keeps
    | stop =>
      dsimp only
      have hs := (postActive_keeps h (x := .stopping) (by simp) o).trans
        (Calm.setTimer (postActive a o s).timer.atStop).keeps
      rcases enterStopping_cases (postActive a o s) with ⟨-, he⟩ | ⟨-, he⟩ <;> rw [he]
      · exact hs
      · exact hs.trans (stopDone_calm _ rfl).keeps
    | idle => exact (postActive_keeps h (by simp) o).trans (Calm.setTimer _).keeps

/-- An operation that ends in FINISH or in a stop. -/
theorem conclude_preserves (h : s.command = some a.cmd) (o : CmdOutcome) {e : Ending} (he : e ≠ .idle) :
    Preserves s (conclude a o e s) := by
  refine ⟨conclude_keeps h o e, fun ⟨hsel, hg, _⟩ => ?_⟩
  rcases conclude_cases s a o e with ⟨-, hc⟩ | ⟨-, hc⟩ <;> rw [hc]
  · exact enterStopping_course _
  · cases e with
    | finish n =>
      have hs : s.tlc.selected ≠ none := by
        obtain ⟨b, hb, -⟩ := State.command_eq_some h
        rw [Ne, hsel]
        simp [hb]
      exact ⟨⟨fun h => absurd h hs, nofun⟩, hg, nofun, fun _ => rfl, nofun, nofun⟩
    | stop => exact enterStopping_course _
    | idle => exact absurd rfl he

/-- One that ends at once, its unit released before. -/
theorem conclude_idle_course (o : CmdOutcome) (hsel : s.tlc.selected = none) (hg : s.fw.gate = false) :
    (conclude a o .idle s).operationOk := by
  rcases conclude_cases s a o .idle with ⟨-, hc⟩ | ⟨-, hc⟩ <;> rw [hc]
  · exact enterStopping_course _
  · exact enterIdle_course _ hsel hg

theorem shortFinish_ne_idle : shortFinish ≠ .idle := nofun

theorem conclude_shortFinish_preserves (h : s.command = some a.cmd) (o : CmdOutcome) :
    Preserves s (conclude a o shortFinish s) := conclude_preserves h o shortFinish_ne_idle

variable (s)

theorem endInStop_preserves (o : CmdOutcome) : Preserves s (endInStop o s) := by
  unfold endInStop
  split
  · exact conclude_preserves (State.command_of_active ‹_›) o nofun
  · exact enterStopping_preserves s (State.command_eq_none.mpr (by simp [*]))
  · exact Preserves.refl s

/-- The loss of the selected unit, from whatever mode. -/
theorem lossOfUnit_preserves : Preserves s (lossOfUnit s) := by
  unfold lossOfUnit
  dsimp only
  have hr : Calm s ((releaseUnit (dropGate s)).setFr ((releaseUnit (dropGate s)).fr.leave .idle)) :=
    ((dropGate_quiet s).toCalm.trans (releaseUnit_calm _)).trans (Quiet.setFr _ _).toCalm
  generalize hu : (releaseUnit (dropGate s)).setFr _ = u at hr
  have hsel : u.tlc.selected = none := hu ▸ rfl
  have hg : u.fw.gate = false := hu ▸ rfl
  split
  · rename_i a ha
    have hc : u.command = some (a.withOpenRecord s.fr).cmd := by
      rw [Active.withOpenRecord_cmd]
      exact State.command_of_active ha
    exact ⟨hr.keeps.trans (conclude_keeps hc _ _), fun _ => conclude_idle_course _ hsel hg⟩
  · rename_i ho
    have hs : s.oc = .idle := by
      rw [← (dropGate_quiet s).idle]
      rw [← hu] at ho
      exact ho
    refine ⟨hr.keeps, fun ⟨_, _, ht, _, _, _⟩ => ?_⟩
    have htimer : u.timer = .stopped := by
      have := ((dropGate_quiet s).timer ⟨ht, fun h => absurd hs h.1, fun h => absurd (hs.symm.trans h) nofun⟩).1
        ((dropGate_quiet s).idle.mpr hs)
      rw [← hu]
      exact this
    exact ⟨⟨fun _ => ho, fun _ => hsel⟩, fun h => absurd h (by simp [hg]), fun _ => htimer,
      fun h => absurd ho h.1, fun h => absurd (ho.symm.trans h) nofun, fun h => absurd h (by simp [State.active, ho])⟩
  · rename_i hna _
    exact ⟨hr.keeps.trans (enterIdle_calm u (State.command_eq_none.mpr hna)).keeps, fun _ => enterIdle_course u hsel hg⟩

end Ends

end Sys2Proof.Machine
end

section
/-! PROOF. The operations behind the rows, each in terms of those before it: what they keep of the promises. -/

namespace Sys2Proof.Machine

section Rows
variable {s t : State} {a : Active}

/-- A command that goes on quietly and then ends. -/
theorem Quiet.conclude (h : Quiet s t) (hc : s.command = some a.cmd) (o : CmdOutcome) {e : Ending} (he : e ≠ .idle) :
    Preserves s (conclude a o e t) :=
  h.preserves.trans (conclude_preserves (h.active_of_command hc) o he)

theorem Quiet.concludeShort (h : Quiet s t) (hc : s.command = some a.cmd) (o : CmdOutcome) :
    Preserves s (Machine.conclude a o shortFinish t) :=
  h.conclude hc o shortFinish_ne_idle

/-! ### The Verify Unit's window -/

theorem VerifyUnit.record_window (v : VerifyUnit) (k : Option FailureKind) : (v.record k).window = v.window := by
  unfold VerifyUnit.record
  split <;> rfl

theorem VerifyUnit.afterRemoval_window (v : VerifyUnit) (e : WindowEntry) :
    (v.afterRemoval e).1.window.length ≤ v.window.length := by
  unfold VerifyUnit.afterRemoval
  repeat' split
  all_goals first | exact le_rfl | exact Nat.zero_le _

theorem VerifyUnit.frame_window (v : VerifyUnit) (strict : Bool) (f : ReadFrame) :
    (v.frame strict f).1.window.length ≤ v.window.length := by
  unfold VerifyUnit.frame
  split
  · exact le_rfl
  · split
    · exact (congrArg List.length (v.record_window _)).le
    · rename_i e rest hw
      refine (VerifyUnit.afterRemoval_window _ e).trans ?_
      simp only [VerifyUnit.tally, VerifyUnit.record_window, hw, List.length_cons]
      omega

theorem VerifyUnit.blankLcf_window (v : VerifyUnit) : v.blankLcf.1.window.length ≤ v.window.length := by
  unfold VerifyUnit.blankLcf
  split
  · dsimp only
    split
    · exact Nat.zero_le _
    · exact le_rfl
  · exact le_rfl

theorem VerifyUnit.deadline_window (v : VerifyUnit) : v.deadline.1.window.length ≤ v.window.length := by
  unfold VerifyUnit.deadline
  dsimp only
  split
  · exact le_rfl
  all_goals exact Nat.zero_le _

/-! ### Writing -/

variable (s)

theorem takeTrailerVerdict_preserves (pass : Bool) : Preserves s (takeTrailerVerdict pass s) := by
  unfold takeTrailerVerdict
  split
  · exact (endCopy_quiet s _ _).concludeShort (State.command_of_active ‹_›) _
  · exact Preserves.refl s

theorem takeVerdict_preserves (v : Option Verdict) : Preserves s (takeVerdict v s) := by
  unfold takeVerdict
  split
  · exact Preserves.refl s
  · exact (takeCopyVerdict_quiet _ _).preserves
  · exact takeTrailerVerdict_preserves s _

variable {s}

theorem takeLcfPlace_preserves (h : s.command = some a.cmd) : Preserves s (takeLcfPlace a s) := by
  unfold takeLcfPlace
  dsimp only
  have hp := enterPhase_quiet h .lcf none
  have ht : ∀ d, Quiet s ((enterPhase a .lcf none s).setTimer { (enterPhase a .lcf none s).timer with deadline := d }) :=
    fun d => Quiet.after (Quiet.setTimer_of_command (hp.active_of_command h) id) hp
  split
  · refine (lcfTaken_quiet _).preserves.after <| (takeVerdict_preserves _ _).after <| Quiet.preserves ?_
    refine Quiet.after (Quiet.setVu fun hw => ?_) (Quiet.after (Quiet.setFw id) (ht _))
    split
    · exact hw
    · exact (VerifyUnit.blankLcf_window _).trans hw
  · exact ((writeFrame_quiet _ _ _ _ _).after (ht _)).preserves

theorem writeTrailerSecond_preserves (h : s.command = some a.cmd) (k : TrailerKind) :
    Preserves s (writeTrailerSecond a k s) := by
  unfold writeTrailerSecond
  dsimp only
  generalize hf : writeFrame (frameOf (trailerSecond k)) .trailer 1 (decide (k = .commit)) _ = f
  have hw : Quiet s f := hf ▸ Quiet.after (writeFrame_quiet _ _ _ _ _) (Quiet.setFw id)
  have hc := hw.active_of_command h
  cases k with
  | commit =>
    dsimp only
    have hp : ∀ d, Quiet s ((enterPhase a .trailerCheck none f).setTimer
        { (enterPhase a .trailerCheck none f).timer with deadline := d }) := fun d =>
      Quiet.after (Quiet.setTimer_of_command ((enterPhase_quiet hc _ _).active_of_command hc) id)
        ((enterPhase_quiet hc _ _).after hw)
    exact Preserves.ite ((controlResetEffect_preserves _).after (hp _).preserves) (hp _).preserves
  | void =>
    dsimp only
    have he : Quiet s (endCopy a .void f) := (endCopy_quiet f a .void).after hw
    refine Preserves.ite ((controlResetEffect_preserves _).after he.preserves) (Preserves.ite (Preserves.ite ?_ ?_) ?_)
    · exact he.conclude h _ nofun
    · exact (Quiet.after Quiet.dropDeadline ((enterPhase_quiet (he.active_of_command h) _ _).after he)).preserves
    · exact he.conclude h _ nofun

variable (s)

theorem takeEchoDeadline_preserves : Preserves s (takeEchoDeadline s) := by
  have hd := (dropGateAndReport_quiet s).preserves
  have he := (endInStop_preserves _ .writeFault).after ((sendStop_quiet (dropGateAndReport s)).preserves.after hd)
  unfold takeEchoDeadline
  split
  · split
    · exact he
    · exact he
    · exact hd
  · exact Preserves.refl s

/-! ### Reading -/

theorem closeFrame_preserves : Preserves s (closeFrame s) := by
  unfold closeFrame
  split
  · exact Preserves.refl s
  · dsimp only
    split
    · refine (takeVerdict_preserves _ _).after (Quiet.preserves ?_)
      exact Quiet.after (Quiet.setVu (VerifyUnit.frame_window _ _ _).trans) (Quiet.setFr _ _)
    · exact Preserves.ite (Quiet.setFr _ _).preserves (Quiet.after (joinRun_quiet _ _) (Quiet.setFr _ _)).preserves
    · exact (Quiet.setFr _ _).preserves

variable {s}

theorem concludeRead_preserves (h : s.command = some a.cmd) (r : CloseReport) (o : CmdOutcome) :
    Preserves s (concludeRead a r o s) := (stopReceiving_quiet s).concludeShort (by exact h) o

theorem closeReceived_preserves (h : s.command = some a.cmd) (r : CloseReport) : Preserves s (closeReceived a r s) := by
  unfold closeReceived
  split
  · split
    · exact concludeRead_preserves h r _
    · dsimp only
      split
      · exact (Quiet.after (Quiet.setOc (by exact h)) (Quiet.setFr _ _)).preserves
      · exact Preserves.after (concludeRead_preserves (by exact h) r _) (Quiet.setFr _ _).preserves
  · exact concludeRead_preserves h r _

theorem closeSpace_preserves (h : s.command = some a.cmd) (r : CloseReport) : Preserves s (closeSpace a r s) := by
  have hgo : Preserves s (s.setOc (.active a)) := (Quiet.setOc h).preserves
  have hend := fun o => (Quiet.refl s).concludeShort h o
  exact Preserves.ite hgo (Preserves.ite (Preserves.ite (hend _) hgo)
    (Preserves.ite (hend _) (Preserves.ite (hend _) hgo)))

theorem closeLocate_preserves (h : s.command = some a.cmd) (r : CloseReport) : Preserves s (closeLocate a r s) := by
  have hgo : Preserves s (s.setOc (.active a)) := (Quiet.setOc h).preserves
  have hend := fun o => (Quiet.refl s).concludeShort h o
  unfold closeLocate
  split
  · exact hgo
  · exact hend _
  · exact hend _
  · split
    · exact Preserves.ite (hend _) hgo
    · exact Preserves.ite (enterTurn_quiet h).preserves (Preserves.ite (hend _) hgo)
    · exact hgo

variable (s)

theorem applyClose_preserves (r : CloseReport) : Preserves s (applyClose r s) := by
  unfold applyClose
  split
  · rename_i a ha
    have hd := discardVoid_quiet s (creditClose a r) r
    have hc : s.command = some (discardVoid (creditClose a r) r s).1.cmd := by
      rw [State.command_of_active ha, discardVoid_cmd, creditClose_cmd]
    generalize discardVoid (creditClose a r) r s = d at hd hc
    obtain ⟨b, q⟩ := d
    dsimp only at hd hc ⊢
    have hq := hd.active_of_command hc
    have hgo : Preserves q (q.setOc (.active b)) := (Quiet.setOc hq).preserves
    refine Preserves.after ?_ hd.preserves
    refine Preserves.ite (controlResetEffect_preserves q) (Preserves.ite ?_ ?_)
    · exact (Quiet.ite (stopReceiving_quiet q) (Quiet.refl q)).concludeShort (by exact hq) _
    · split
      · exact Preserves.ite (closeReceived_preserves hq r) hgo
      · exact Preserves.ite (closeReceived_preserves hq r) hgo
      · exact closeSpace_preserves hq r
      · exact closeSpace_preserves hq r
      · exact closeLocate_preserves hq r
      · exact hgo
  · exact Preserves.refl s

theorem applyLoss_preserves : Preserves s (applyLoss s) := by
  unfold applyLoss
  split
  · exact Preserves.ite (controlResetEffect_preserves s)
      (Preserves.ite ((Quiet.refl s).concludeShort (State.command_of_active ‹_›) _) (Preserves.refl s))
  · exact Preserves.refl s

theorem applyReport_preserves (p : ParseReport) : Preserves s (applyReport p s) := by
  unfold applyReport
  split
  · exact Preserves.refl s
  · exact applyClose_preserves s _
  · exact applyLoss_preserves s

theorem takeRunBreak_preserves : Preserves s (takeRunBreak s) :=
  Preserves.ite
    ((syncPhase_quiet _).preserves.after <| (breakOpen_quiet _).preserves.after <| (syncPhase_quiet _).preserves.after <|
      (applyReport_preserves _ _).after <| (breakClose_quiet _).preserves.after (closeFrame_preserves s))
    (Preserves.refl s)

theorem takeCloseLimit_preserves : Preserves s (takeCloseLimit s) := by
  unfold takeCloseLimit
  split
  · refine Preserves.ite ?_ (Preserves.refl s)
    split
    · exact (syncPhase_quiet _).preserves.after <| (applyReport_preserves _ _).after (closeRecord_quiet _ _ _ _ _).preserves
    · exact (syncPhase_quiet _).preserves.after <| (applyLoss_preserves _).after (Quiet.setFr _ _).preserves
  · exact Preserves.refl s

theorem dropHeaderRun_preserves : Preserves s (dropHeaderRun s) := by
  refine Preserves.ite (Preserves.after ?_ (closeFrame_preserves s)) (Preserves.refl s)
  exact Preserves.ite (Quiet.setFr _ _).preserves (Preserves.refl _)

theorem endSearch_preserves : Preserves s (endSearch s) := by
  unfold endSearch
  split
  · exact (Quiet.setFr s _).concludeShort (State.command_of_active ‹_›) _
  · exact Preserves.refl s

theorem takeSearchLimit_preserves : Preserves s (takeSearchLimit s) := by
  unfold takeSearchLimit
  split
  · exact Preserves.ite ((endSearch_preserves _).after (dropHeaderRun_preserves s)) (Preserves.refl s)
  · exact Preserves.refl s

/-! ### Distances and ticks -/

theorem atPhaseEnd_preserves (p : Phase) {f : Active → State → State}
    (hf : ∀ a, s.command = some a.cmd → Preserves s (f a s)) : Preserves s (atPhaseEnd p f s) := by
  unfold atPhaseEnd
  split
  · exact Preserves.ite (hf _ (State.command_of_active ‹_›)) (Preserves.refl s)
  · exact Preserves.refl s

theorem takeGuardEnd_preserves : Preserves s (takeGuardEnd s) :=
  atPhaseEnd_preserves s _ fun _ h => (beginCopy_quiet h).preserves

theorem takeLeaderEnd_preserves : Preserves s (takeLeaderEnd s) :=
  atPhaseEnd_preserves s _ fun _ h => (Quiet.ite (enterPhase_quiet h _ _) (beginCopy_quiet h)).preserves

theorem takeCheckSpaceEnd_preserves : Preserves s (takeCheckSpaceEnd s) :=
  atPhaseEnd_preserves s _ fun _ h => takeLcfPlace_preserves h

theorem takeRewriteGapEnd_preserves : Preserves s (takeRewriteGapEnd s) :=
  atPhaseEnd_preserves s _ fun a h => (beginCopy_quiet (a := { a with copyCounter := a.copyCounter + 1 }) h).preserves

theorem takeEraseEnd_preserves : Preserves s (takeEraseEnd s) :=
  atPhaseEnd_preserves s _ fun _ h => (Quiet.refl s).concludeShort h _

theorem takeTrailerPlacement_preserves : Preserves s (takeTrailerPlacement s) := by
  unfold takeTrailerPlacement
  split
  · split
    · exact Preserves.ite (writeTrailerFirst_quiet s _).preserves (Preserves.refl s)
    · exact Preserves.refl s
  · exact Preserves.refl s

theorem takeDeadline_preserves (st : VerifyState) : Preserves s (takeDeadline st s) := by
  refine Preserves.ite ?_ (Preserves.refl s)
  refine (takeVerdict_preserves _ _).after (Quiet.preserves ?_)
  exact Quiet.after Quiet.dropDeadline (Quiet.setVu (VerifyUnit.deadline_window _).trans)

theorem closeOverdueFrame_preserves : Preserves s (closeOverdueFrame s) := by
  unfold closeOverdueFrame
  split
  · exact Preserves.ite (closeFrame_preserves s) (Preserves.refl s)
  · exact Preserves.refl s

theorem writeDue_preserves : Preserves s (writeDue s) := by
  unfold writeDue
  split
  · rename_i a ha
    have h := State.command_of_active ha
    split
    · exact (writeRunFrame_quiet h).preserves
    · exact Preserves.ite (writeTrailerSecond_preserves h _) (Preserves.refl s)
    · exact (Quiet.ite (enterPhase_quiet h _ _) (beginCopy_quiet h)).preserves
    · exact Preserves.refl s
  · exact Preserves.refl s

theorem ifSelected_preserves (u : UnitId) {f : State → State} (hf : ∀ s, Preserves s (f s)) :
    Preserves s (ifSelected u f s) := Preserves.ite (hf s) (Preserves.refl s)

end Rows

end Sys2Proof.Machine
end

section
/-! PROOF. The rows of the table: GO, the start and the chain, the actions, the lines, the register window and the RESET input. Every
command takes a next state that keeps the promises, and so does every step. -/

namespace Sys2Proof.Machine

/-! ### GO (R146 to R148) -/

/-- The checks of R147 that a GO passes. -/
theorem refusal_eq_none_iff (s : State) (code : CommandCode) :
    refusal s (some code) = none ↔
      s.cu.queue.length < 4 ∧ s.tagCarried s.cu.tagCounter = false ∧ s.hw.resetPending = false ∧
        countInRange s.hw code = true ∧ argInRange s.hw code = true ∧
        (code.namesBuffer = true → (s.bu.buffer s.hw.buffer).committed = false) := by
  unfold refusal
  by_cases hfull : Config.queueSize ≤ s.cu.queue.length ∨ s.tagCarried s.cu.tagCounter = true
  · rw [if_pos hfull]
    refine ⟨nofun, fun ⟨hl, ht, _⟩ => ?_⟩
    rcases hfull with h | h
    · exact absurd hl (Nat.not_lt.mpr h)
    · simp [ht] at h
  · rw [if_neg hfull]
    obtain ⟨hl, ht⟩ := not_or.mp hfull
    have hl' : s.cu.queue.length < 4 := Nat.not_le.mp hl
    simp only [hl', Bool.not_eq_true _ ▸ ht, true_and]
    cases s.hw.resetPending <;> cases countInRange s.hw code <;> cases argInRange s.hw code <;> cases code.namesBuffer <;>
      simp

theorem State.tagCarried_eq_false {s : State} {k : Tag} (h : s.tagCarried k = false) :
    (s.cmp.ring.map Completion.tag).count k = 0 ∧ (s.cmp.held.map Completion.tag).toList.count k = 0 ∧
      (s.command.map Command.tag).toList.count k = 0 := by
  simp only [State.tagCarried, CompletionUnit.carries, Bool.or_eq_false_iff, List.any_eq_false, decide_eq_true_eq] at h
  obtain ⟨⟨hring, hheld⟩, hact⟩ := h
  refine ⟨List.count_eq_zero.mpr fun hm => ?_, List.count_eq_zero.mpr fun hm => ?_, List.count_eq_zero.mpr fun hm => ?_⟩
  · obtain ⟨r, hr, e⟩ := List.mem_map.mp hm
    exact hring r hr e
  · cases hd : s.cmp.held with
    | none => simp [hd] at hm
    | some r => simp_all
  · unfold State.command State.active at hm
    cases ho : s.oc <;> simp_all

theorem stagedCommand_owns (hw : HostWindow) (code : CommandCode) (tag : Tag) (b : BufferId) :
    (stagedCommand hw code tag).owns b = (code.namesBuffer && decide (hw.buffer = b)) := by
  unfold Command.owns stagedCommand
  cases h : code.namesBuffer <;> simp

/-- The buffers after an accepted GO: the named one COMMITTED. -/
theorem accept_committed (code : CommandCode) (s : State) (b : BufferId) :
    ((accept code s).bu.buffer b).committed =
      ((stagedCommand s.hw code s.cu.tagCounter).owns b || (s.bu.buffer b).committed) := by
  rw [stagedCommand_owns]
  unfold accept
  cases h : code.namesBuffer
  · simp
  · have hb : (stagedCommand s.hw code s.cu.tagCounter).buffer = s.hw.buffer := by simp [stagedCommand, h]
    by_cases e : b = s.hw.buffer
    · subst e; simp [hb, BufferUnit.commit, BufferUnit.buffer, BufferUnit.setBuffer]
    · simp [hb, BufferUnit.commit, BufferUnit.buffer, BufferUnit.setBuffer, PerBuffer.get_set_other _ _ e, Ne.symm e]

theorem accept_cu (code : CommandCode) (s : State) :
    (accept code s).cu =
      { queue := s.cu.queue ++ [stagedCommand s.hw code s.cu.tagCounter], tagCounter := s.cu.tagCounter + 1,
        lastTag := s.cu.tagCounter, result := .accepted } := by
  unfold accept
  dsimp only
  split <;> rfl

theorem accept_within (code : CommandCode) (s : State) : Within s (accept code s) := by
  have hc : Within s (s.setCu (accept code s).cu) := Within.setCu s _
  rw [accept_cu] at hc
  unfold accept
  dsimp only
  split
  · refine ⟨hc.pending, hc.discards, hc.window, fun b hb => ?_, hc.stream, hc.catalogues, hc.profiles⟩
    by_cases e : b = (stagedCommand s.hw code s.cu.tagCounter).buffer
    · subst e; simpa [BufferUnit.commit, BufferUnit.buffer, BufferUnit.setBuffer] using hb
    · simp only [BufferUnit.commit, BufferUnit.buffer, BufferUnit.setBuffer, State.setBu_bu, PerBuffer.get_set_other _ _ e]
      exact hb
  · exact hc

theorem accept_cmp (code : CommandCode) (s : State) : (accept code s).cmp = s.cmp := by
  unfold accept
  dsimp only
  split <;> rfl

theorem accept_oc (code : CommandCode) (s : State) : (accept code s).oc = s.oc := by
  unfold accept
  dsimp only
  split <;> rfl

theorem accept_command (code : CommandCode) (s : State) : (accept code s).command = s.command := by
  rw [State.command, State.command, State.active, State.active, accept_oc]

/-- A GO that passes its checks keeps the promises: its tag is the first that no one carries. -/
theorem accept_keeps {code : CommandCode} {s : State} (h : refusal s (some code) = none) : Keeps s (accept code s) := by
  obtain ⟨hl, htag, -, -, harg, hopen⟩ := (refusal_eq_none_iff s code).mp h
  have hw := accept_within code s
  have hcu := accept_cu code s
  have hcmp := accept_cmp code s
  refine ⟨hw.pending, hw.capacity (fun _ => ?_) (fun hs => hcmp ▸ hs), hw.cataloguesOk, fun ⟨h0, h1, h2, h3, hq⟩ => ?_,
    fun ⟨hn, hlen, ht⟩ => ?_, fun ho => ?_⟩
  · rw [hcu, List.length_append]; exact hl
  · refine ⟨hw.profiles 0 h0, hw.profiles 1 h1, hw.profiles 2 h2, hw.profiles 3 h3, fun c hc hlp => ?_⟩
    rw [hcu] at hc
    rcases List.mem_append.mp hc with hc | hc
    · exact hq c hc hlp
    · obtain rfl := List.mem_singleton.mp hc
      have hlp' : code = .loadProfile := hlp
      subst hlp'
      simpa [argInRange, stagedCommand, CommandCode.usesArg, headDistanceOk] using harg
  · obtain ⟨hring, hheld, hact⟩ := State.tagCarried_eq_false htag
    refine ⟨List.nodup_iff_count_le_one.mpr fun x => ?_, ?_, ?_⟩
    · have hx := List.nodup_iff_count_le_one.mp hn x
      rw [State.count_carriedTags] at hx ⊢
      rw [accept_command, hcmp, hcu, List.map_append, List.count_append]
      simp only [List.map_cons, List.map_nil, stagedCommand]
      by_cases e : x = s.cu.tagCounter
      · subst e
        have hq : (s.cu.queue.map Command.tag).count s.cu.tagCounter = 0 := by
          rw [ht]
          exact List.count_eq_zero.mpr (notMem_tagsBefore _ _ (by omega))
        simp only [List.count_singleton_self]
        omega
      · rw [List.count_singleton, if_neg (by simpa using Ne.symm e)]
        omega
    · rw [hcu, List.length_append]; exact hl
    · rw [hcu, List.map_append, List.length_append]
      exact (congrArg (· ++ _) ht).trans (tagsBefore_succ _ _).symm
  · rw [State.ownersOk_iff] at ho ⊢
    intro b
    have hb := ho b
    rw [hcu, accept_command, accept_committed, List.countP_append, List.countP_singleton]
    cases hown : (stagedCommand s.hw code s.cu.tagCounter).owns b
    · simpa using hb
    · rw [stagedCommand_owns, Bool.and_eq_true, decide_eq_true_eq] at hown
      obtain ⟨hnames, rfl⟩ := hown
      rw [hopen hnames] at hb
      simp only [Bool.false_eq_true, if_false, Bool.true_or, if_true] at hb ⊢
      omega

theorem Untouched.preservesCu {s : State} {r : SubmitResult} : Preserves s (s.setCu { s.cu with result := r }) :=
  ⟨⟨rfl, id, id, id, id, id⟩, id⟩

theorem takeGo_preserves (code : Option CommandCode) (s : State) : Preserves s (takeGo code s) := by
  unfold takeGo
  split
  · rename_i c hr
    refine ⟨accept_keeps hr, fun hs => ?_⟩
    unfold accept
    dsimp only
    split <;> exact hs
  · exact Untouched.preservesCu
  · exact Untouched.preservesCu

/-! ### The start and the chain (R46, R57, R150 to R152) -/

theorem beginCommand_quiet (c : Command) (s : State) : Quiet s (beginCommand c s).1 :=
  Quiet.after (Quiet.setFr _ _) <| Quiet.after (Quiet.setVu id) (Quiet.setBu (BufferUnit.Sound.atStart _ c))

theorem noteEndMarker_cmd (a : Active) (l : Lines) : (noteEndMarker a l).cmd = a.cmd := by
  unfold noteEndMarker
  split <;> rfl

theorem withPlan_cmd (a : Active) (s : State) : (withPlan a s).cmd = a.cmd := by
  unfold withPlan
  split <;> rfl

theorem enterPhase_untouched (a : Active) (p : Phase) (n : Option Nat) (s : State) : Untouched s (enterPhase a p n s) :=
  (Untouched.setOc s _).trans (Calm.setTimer _).toUntouched

/-- An operation that begins with a unit selected and nothing held. -/
theorem enterPhase_course {a : Active} {p : Phase} {n : Option Nat} {s : State} (hsel : s.tlc.selected ≠ none)
    (hheld : s.cmp.held = none) : (enterPhase a p n s).operationOk :=
  ⟨⟨fun h => absurd h hsel, nofun⟩, fun _ => hsel, nofun, fun _ => rfl, nofun, fun _ => hheld⟩

/-- Leaving START: the selection stands, the command is active, and the rest of the command side is untouched. -/
theorem leaveStart_spec (a : Active) (s : State) :
    Untouched s (leaveStart a s) ∧ (leaveStart a s).command = some a.cmd ∧
      (s.tlc.selected ≠ none → s.cmp.held = none → (leaveStart a s).operationOk) := by
  unfold leaveStart
  extract_lets u l moves b s1 s2 s3 f s4 g s5
  have h1 : Quiet s s1 := Quiet.ite (takeLoadPoint_quiet s u) (Quiet.refl s)
  have h2 : Quiet s s2 := (Quiet.ite (truncateCatalogue_quiet s1 u) (Quiet.refl s1)).after h1
  have h3 : Quiet s s3 := (sendMotion_quiet s2 u _).after h2
  have h4 : Untouched s s4 ∧ s4.tlc = s3.tlc ∧ s4.cmp = s3.cmp := by
    dsimp only [s4]
    split
    · exact ⟨h3.toUntouched.trans (Calm.setFw _).toUntouched, rfl, rfl⟩
    · exact ⟨h3.toUntouched, rfl, rfl⟩
  have h5 : Untouched s s5 ∧ s5.tlc = s3.tlc ∧ s5.cmp = s3.cmp := by
    dsimp only [s5]
    split
    · exact ⟨h4.1.trans (Quiet.setFr _ _).toUntouched, h4.2⟩
    · exact h4
  obtain ⟨hu, htlc, hcmp⟩ := h5
  refine ⟨hu.trans (enterPhase_untouched _ _ _ _), ?_, fun hsel hheld => enterPhase_course ?_ ?_⟩
  · exact congrArg some (noteEndMarker_cmd _ l)
  · rw [htlc, h3.selected]; exact hsel
  · rw [hcmp, h3.cmp]; exact hheld

/-- A command posted at its start leaves the queue for its completion. -/
theorem postAtStart_keeps {s u : State} {a : Active} {c : Command} {o : CmdOutcome} {lp : Bool} {rest : List Command}
    (hq : s.cu.queue = c :: rest) (hs : s.command = none) (hu : Calm (s.setCu { s.cu with queue := rest }) u)
    (ha : a.cmd = c) : Keeps s (postAtStart a o lp u) := by
  subst ha
  have hn : u.command = none := hu.command.trans hs
  exact (Keeps.postedHead hq hs hu.toUntouched hn rfl).trans (enterIdle_calm (post a.cmd _ u) hn).keeps

theorem takeStart_preserves (s : State) : Preserves s (takeStart s) := by
  unfold takeStart
  split
  · rename_i c rest hq ho
    split
    · rename_i hcond
      have hnone : s.command = none := State.command_eq_none.mpr (by simp [ho])
      have hheld : s.cmp.held = none := by
        simp only [Bool.and_eq_true, Option.isNone_iff_eq_none] at hcond
        exact hcond.1.2
      unfold startCommand
      extract_lets src b s1 l link s2 a s3
      have hb : Quiet (s.setCu { s.cu with queue := rest }) s1 := beginCommand_quiet c _
      have h3 : Calm (s.setCu { s.cu with queue := rest }) s3 :=
        hb.toCalm.trans (Calm.after (Quiet.setFr _ _).toCalm (Calm.setTlc fun _ => rfl))
      have hcmd : a.cmd = c := withPlan_cmd _ _
      split
      · refine ⟨postAtStart_keeps hq hnone hb.toCalm rfl, fun ⟨hsel, hg, _⟩ => ?_⟩
        have hs : s.tlc.selected = none := hsel.mpr ho
        exact enterIdle_course _ hs (Bool.eq_false_iff.mpr fun h => hg h hs)
      · split
        · refine ⟨Keeps.trans (postAtStart_keeps hq hnone (h3.trans ?_) hcmd) (releaseUnit_calm _).keeps,
            fun _ => ⟨⟨fun _ => rfl, fun _ => rfl⟩, nofun, fun _ => rfl, fun h => absurd rfl h.1, nofun, nofun⟩⟩
          exact (Quiet.ite (takeLoadPoint_quiet s3 c.unit) (Quiet.refl s3)).toCalm
        · obtain ⟨hu, hc, hcourse⟩ := leaveStart_spec a s3
          exact ⟨Keeps.of_begun hq hnone (h3.toUntouched.trans hu) (hcmd ▸ hc), fun _ => hcourse nofun hheld⟩
    · exact Preserves.refl s
  · exact Preserves.refl s

/-! ### The chain (R57, R152) -/

theorem chainCommand_spec (c : Command) (s : State) :
    Untouched s (chainCommand c s) ∧ (chainCommand c s).command = some c ∧
      (s.tlc.selected ≠ none → s.cmp.held = none → (chainCommand c s).operationOk) := by
  unfold chainCommand
  extract_lets b s1 l f g a s2
  have h2 : Quiet s s2 := Quiet.after (Quiet.setFr _ _) (beginCommand_quiet c s)
  have hcmd : a.cmd = c := noteEndMarker_cmd _ _
  have hbegins : ∀ {t : State} (p : Phase), Quiet s t →
      Untouched s (enterPhase a p none t) ∧ (enterPhase a p none t).command = some c ∧
        (s.tlc.selected ≠ none → s.cmp.held = none → (enterPhase a p none t).operationOk) := fun p ht =>
    ⟨ht.toUntouched.trans (enterPhase_untouched _ _ _ _), congrArg some hcmd, fun hsel hheld =>
      enterPhase_course (ht.selected ▸ hsel) (ht.cmp ▸ hheld)⟩
  split
  · exact hbegins _ ((truncateCatalogue_quiet _ _).after h2)
  · split
    · exact hbegins _ h2
    · exact hbegins _ (Quiet.after (Quiet.setFr _ _) h2)

theorem takeEndOfFinish_preserves (s : State) : Preserves s (takeEndOfFinish s) := by
  unfold takeEndOfFinish
  split
  · rename_i f ho
    have hnone : s.command = none := State.command_eq_none.mpr (by simp [ho])
    have hstop : Preserves s (enterStopping (sendStop s)) :=
      (enterStopping_preserves _ ((sendStop_quiet s).command.trans hnone)).after (sendStop_quiet s).preserves
    refine Preserves.ite ?_ (Preserves.refl s)
    split
    · rename_i c rest hq
      split
      · rename_i hcond
        obtain ⟨hu, hc, hcourse⟩ := chainCommand_spec c (s.setCu { s.cu with queue := rest })
        refine ⟨Keeps.of_begun hq hnone hu hc, fun ⟨hsel, _⟩ => hcourse (fun h => ?_) ?_⟩
        · exact absurd (ho.symm.trans (hsel.mp h)) nofun
        · simp only [Bool.and_eq_true, Option.isNone_iff_eq_none] at hcond
          exact hcond.2
      · exact hstop
    · exact hstop
  · exact Preserves.refl s

/-! ### The commands that need no medium (R36, R138, R151) -/

/-- The profile that LOAD PROFILE sets is in range, since the queue holds no other (R147). -/
theorem nonMediumWork_keeps {c : Command} {s : State} (hc : c ∈ s.cu.queue) : Keeps s (nonMediumWork c s) := by
  unfold nonMediumWork
  split
  · exact (Quiet.setNextOrdinal _ _).toCalm.keeps
  · rename_i hcode
    refine ⟨rfl, id, id, fun ⟨h0, h1, h2, h3, hq⟩ => ?_, id, id⟩
    have hlink : ∀ v, headDistanceOk (s.link v).profile.headDistance → headDistanceOk
        ((s.setLink c.unit { s.link c.unit with
          profile := { headDistance := c.arg.toNat, strict := c.strict, weakStart := c.weakStart } }).link
            v).profile.headDistance := fun v hv => by
      by_cases e : v = c.unit
      · subst e
        rw [State.link_setLink]
        exact hq c hc hcode
      · rw [State.link_setLink_other _ _ e]
        exact hv
    exact ⟨hlink 0 h0, hlink 1 h1, hlink 2 h2, hlink 3 h3, hq⟩
  · exact Keeps.refl s

theorem nonMediumWork_setCu (c : Command) (s : State) (x : CommandUnit) :
    nonMediumWork c (s.setCu x) = (nonMediumWork c s).setCu x := by
  unfold nonMediumWork
  split <;> rfl

theorem nonMediumWork_blocks (c : Command) (s : State) :
    (nonMediumWork c s).cu = s.cu ∧ (nonMediumWork c s).oc = s.oc ∧ (nonMediumWork c s).tlc.selected = s.tlc.selected ∧
      (nonMediumWork c s).fw = s.fw ∧ (nonMediumWork c s).timer = s.timer := by
  unfold nonMediumWork
  split <;> exact ⟨rfl, rfl, rfl, rfl, rfl⟩

theorem takeNonMedium_preserves (s : State) : Preserves s (takeNonMedium s) := by
  unfold takeNonMedium
  split
  · exact Preserves.refl s
  · rename_i c rest hq hna
    split
    · dsimp only
      obtain ⟨hcu, hoc, hsel, hfw, htimer⟩ := nonMediumWork_blocks c s
      have hnone : (nonMediumWork c s).command = none := State.command_eq_none.mpr fun a h => hna a (hoc.symm.trans h)
      refine ⟨?_, fun ⟨h1, h2, h3, h4, h5, _⟩ => ?_⟩
      · rw [nonMediumWork_setCu, ← hcu]
        exact (nonMediumWork_keeps (hq ▸ List.mem_cons_self)).trans
          (Keeps.postedHead (hcu ▸ hq) hnone (Untouched.refl _) hnone rfl)
      · rw [nonMediumWork_setCu]
        simp only [State.operationOk, post_tlc, post_oc, post_fw, post_timer, State.setCu_tlc, State.setCu_oc, State.setCu_fw,
          State.setCu_timer, hoc, hsel, hfw, htimer]
        refine ⟨h1, h2, h3, h4, h5, fun h => ?_⟩
        have hn : (nonMediumWork c s).active.isSome = true := h
        rw [State.active_isSome, hnone] at hn
        exact absurd hn nofun
    · exact Preserves.refl s
  · exact Preserves.refl s

/-! ### The distance tick -/

theorem settle_preserves (s : State) : Preserves s (settle s) :=
  (takeEndOfFinish_preserves _).after <| (takeEraseEnd_preserves _).after <| (takeRewriteGapEnd_preserves _).after <|
    (takeTrailerPlacement_preserves _).after <| (takeCheckSpaceEnd_preserves _).after <| (takeLeaderEnd_preserves _).after <|
    (takeGuardEnd_preserves _).after <| (takeDeadline_preserves _ _).after <| (takeDeadline_preserves _ _).after <|
    (takeSearchLimit_preserves _).after <| (takeCloseLimit_preserves _).after <| (takeRunBreak_preserves _).after
      (closeOverdueFrame_preserves s)

theorem takeTick_preserves (u : UnitId) (s : State) : Preserves s (takeTick u s) :=
  Preserves.after
    (ifSelected_preserves _ u fun s =>
      (writeDue_preserves _).after ((countTick_quiet _).after (enterParse_quiet s)).preserves) <|
  Preserves.after
    (ifSelected_preserves _ u fun s => (takeEchoDeadline_preserves _).after (requestLostByte_quiet s).preserves)
    (ifSelected_preserves s u settle_preserves)

/-! ### The actions -/

theorem abortAtOnce_preserves {a : Active} {s : State} (h : s.command = some a.cmd) : Preserves s (abortAtOnce a s) :=
  (sendStop_quiet s).conclude (a := { a with abortMark := true }) h _ nofun

theorem takeAbort_preserves (s : State) : Preserves s (takeAbort s) := by
  unfold takeAbort
  split
  · rename_i a ha
    have h := State.command_of_active ha
    refine Preserves.ite (Preserves.refl s) ?_
    dsimp only
    have hnow := abortAtOnce_preserves h
    have hrec := (abortInRecord_quiet h).preserves
    have hset : ∀ b : Active, b.cmd = a.cmd → Preserves s (s.setOc (.active b)) := fun b hb =>
      (Quiet.setOc (b := b) (hb ▸ h)).preserves
    split
    all_goals first
      | exact hnow
      | exact Preserves.ite hrec hnow
      | exact hrec
      | exact conclude_shortFinish_preserves (a := { a with abortMark := true }) h _
      | exact (cutRun_quiet (a := { a with abortMark := true }) h _ _).preserves
      | exact hset _ rfl
  · exact Quiet.preserves (Quiet.setHw id)

theorem BufferUnit.buffer_foldl_releaseFor (bu : BufferUnit) (l : List Command) (b : BufferId) :
    (l.foldl BufferUnit.releaseFor bu).buffer b =
      { bu.buffer b with committed := !(l.any (·.owns b)) && (bu.buffer b).committed } := by
  induction l generalizing bu with
  | nil => simp
  | cons c l ih =>
    rw [List.foldl_cons, ih, bu.buffer_releaseFor]
    simp only [List.any_cons, Bool.not_or, Bool.and_assoc, Bool.and_comm]

theorem BufferUnit.foldl_releaseFor_frame (bu : BufferUnit) (l : List Command) :
    (l.foldl BufferUnit.releaseFor bu).stream = bu.stream ∧ (l.foldl BufferUnit.releaseFor bu).delivery = bu.delivery ∧
      (l.foldl BufferUnit.releaseFor bu).select = bu.select ∧ (l.foldl BufferUnit.releaseFor bu).dma = bu.dma := by
  induction l generalizing bu with
  | nil => exact ⟨rfl, rfl, rfl, rfl⟩
  | cons c l ih => simpa using ih (bu.releaseFor c)

/-- FLUSH: the buffers of the discarded commands OPEN, the stream queue emptied or kept (R170, R178). -/
theorem BufferUnit.atFlush_cases (bu : BufferUnit) (l : List Command) (active : Bool) :
    (∀ b, (bu.atFlush l active).buffer b =
        { bu.buffer b with committed := !(l.any (·.owns b)) && (bu.buffer b).committed }) ∧
      (bu.atFlush l active).stream = (if active = false ∧ bu.delivery = false then [] else bu.stream) ∧
      (bu.atFlush l active).delivery = bu.delivery ∧ (bu.atFlush l active).select = bu.select ∧
      (bu.atFlush l active).dma = bu.dma := by
  obtain ⟨hs, hd, hsel, hdma⟩ := bu.foldl_releaseFor_frame l
  have hb := bu.buffer_foldl_releaseFor l
  unfold BufferUnit.atFlush
  dsimp only
  by_cases h : active = false ∧ bu.delivery = false
  · simp only [hd, h.1, h.2, Bool.not_false, Bool.and_self, if_true, and_self]
    exact ⟨hb, rfl, rfl, hsel, hdma⟩
  · rw [if_neg h, if_neg (by simpa [hd] using h)]
    exact ⟨hb, hs, hd, hsel, hdma⟩

theorem takeFlush_preserves (s : State) : Preserves s (takeFlush s) := by
  obtain ⟨hb, hst, -, -, -⟩ := s.bu.atFlush_cases s.cu.queue (s.activeIs .writeStream)
  refine ⟨Keeps.of_emptied ⟨rfl, fun _ => Nat.min_le_right _ _, id, fun b => ?_, fun h => ?_, fun _ => id, fun _ => id⟩ rfl
    (.inl rfl) (.inl rfl) fun ho b => ?_, id⟩
  · change _ → ((s.bu.atFlush s.cu.queue (s.activeIs .writeStream)).buffer b).ok
    rw [hb]
    exact id
  · change (s.bu.atFlush s.cu.queue (s.activeIs .writeStream)).stream.length ≤ _
    rw [hst]
    split
    · exact Nat.zero_le _
    · exact h
  · change s.command.toList.countP (·.owns b) =
      if ((s.bu.atFlush s.cu.queue (s.activeIs .writeStream)).buffer b).committed then 1 else 0
    have hown := (State.ownersOk_iff s).mp ho b
    rw [hb]
    dsimp only
    cases hany : s.cu.queue.any (·.owns b)
    · have hz : s.cu.queue.countP (·.owns b) = 0 := by
        rw [List.countP_eq_zero]
        exact fun c hc => List.any_eq_false.mp hany c hc
      rw [hz, Nat.zero_add] at hown
      simpa using hown
    · have hpos : 0 < s.cu.queue.countP (·.owns b) := by
        rw [List.countP_pos_iff]
        exact List.any_eq_true.mp hany
      have : (if (s.bu.buffer b).committed then 1 else 0) ≤ 1 := by split <;> omega
      simp only [Bool.not_true, Bool.false_and, Bool.false_eq_true, if_false]
      omega

theorem takePop_preserves (s : State) : Preserves s (takePop s) := by
  refine ⟨⟨rfl, fun ⟨h1, h2, h3⟩ => ⟨h1, CompletionUnit.pop_ok h2, h3⟩, id, id,
    State.tagsOk.of_le ⟨[], rfl⟩ rfl fun x => ?_, id⟩, fun ⟨h1, h2, h3, h4, h5, h6⟩ => ⟨h1, h2, h3, h4, h5, fun h => ?_⟩⟩
  · rw [State.count_carriedTags, State.count_carriedTags]
    change (s.cu.queue.map Command.tag).count x + (s.command.map Command.tag).toList.count x +
      (s.cmp.pop.ring.map Completion.tag).count x + (s.cmp.pop.held.map Completion.tag).toList.count x ≤ _
    rcases s.cmp.pop_cases with ⟨-, e⟩ | ⟨r, rest, hr, e⟩
    · rw [e]
    · rw [e, hr]
      cases hd : s.cmp.held with
      | none => simp [List.count_cons]
      | some x =>
        simp only [Option.toList_some, Option.map_some, Option.map_none, Option.toList_none, List.map_append, List.map_cons,
          List.map_nil, List.count_append, List.count_cons, List.count_nil]
        omega
  · change s.cmp.pop.held = none
    rcases s.cmp.pop_cases with ⟨-, e⟩ | ⟨r, rest, -, e⟩ <;> rw [e]
    exact h6 h

theorem clearCauses_preserves (u : UnitId) (s : State) : Preserves s (clearCauses u s) :=
  Quiet.preserves (Quiet.setLink rfl)

theorem takeControlReset_preserves (s : State) : Preserves s (takeControlReset s) :=
  Quiet.preserves (Quiet.setHw id)

theorem takeAction_preserves (a : HostAction) (s : State) : Preserves s (takeAction a s) := by
  cases a
  · exact takeAbort_preserves s
  · exact takeFlush_preserves s
  · exact takeControlReset_preserves s
  · exact takePop_preserves s
  · exact clearCauses_preserves _ s

end Sys2Proof.Machine
end

section
/-! PROOF. The reactions to the status lines, the timers, the register window and the RESET input; then every row, and every step. -/

namespace Sys2Proof.Machine

/-! ### The status lines -/

section Lines
variable (u : UnitId) (s : State)

theorem enterReady_quiet : Quiet s (enterReady u s) :=
  Quiet.ite (Quiet.setUnitState u _) ((raiseCause_quiet _ _ u).after (Quiet.setUnitState u _))

theorem reactPresentRise_quiet : Quiet s (reactPresentRise u s) :=
  Quiet.ite (enterReady_quiet u s) (Quiet.setUnitState u _)

theorem reactReadyRise_quiet : Quiet s (reactReadyRise u s) := Quiet.ite (enterReady_quiet u s) (Quiet.refl s)

theorem loseUnit_preserves (st : UnitState) : Preserves s (loseUnit u st s) := by
  unfold loseUnit
  extract_lets cause s1 s2
  have h1 : Quiet s s1 := Quiet.setUnitState u st
  have hraise : ∀ k : Option Cause, Quiet s (match k with | some k => raiseCause k u s1 | none => s1)
    | some k => (raiseCause_quiet s1 k u).after h1
    | none => h1
  have h2 : Quiet s s2 := hraise cause
  exact Preserves.ite ((lossOfUnit_preserves s2).after h2.preserves) h2.preserves

theorem reactReadyFall_preserves : Preserves s (reactReadyFall u s) := by
  unfold reactReadyFall
  split
  · exact Preserves.refl s
  · exact Preserves.refl s
  · exact loseUnit_preserves u s _

theorem reactLoadPointRise_preserves : Preserves s (reactLoadPointRise u s) :=
  Preserves.ite
    ((endInStop_preserves _ _).after <| (takeLoadPoint_quiet _ u).preserves.after <| (readerAtEvent_quiet _).preserves.after
      (sendStop_quiet s).preserves)
    (Preserves.refl s)

theorem searchMarker_preserves {a : Active} {s : State} (h : s.command = some a.cmd) : Preserves s (searchMarker a s) := by
  have hgo : Preserves s (s.setOc (.active { a with endRisen := true })) := Quiet.preserves (Quiet.setOc h)
  have hend := (Quiet.refl s).concludeShort h .notFound
  unfold searchMarker
  split
  · exact Preserves.ite hgo hend
  · exact Preserves.ite hgo hend
  · exact Preserves.ite hgo hend
  · exact Quiet.preserves (Quiet.setOc h)

theorem reactEndMarkerRise_preserves : Preserves s (reactEndMarkerRise u s) := by
  unfold reactEndMarkerRise
  refine Preserves.ite ?_ (Preserves.refl s)
  split
  · rename_i a ha
    have h := State.command_of_active ha
    exact Preserves.ite (searchMarker_preserves (by exact h)) (Quiet.preserves (Quiet.setOc (by exact h)))
  · exact Preserves.refl s

theorem reactEndRise_preserves : Preserves s (reactEndRise u s) :=
  Preserves.ite
    ((endInStop_preserves _ _).after <| (readerAtEvent_quiet _).preserves.after <| (dropGateAndReport_quiet _).preserves.after
      (sendStop_quiet s).preserves)
    (Preserves.refl s)

theorem losePermit_preserves : Preserves s (losePermit s) := by
  have hd := (dropGateAndReport_quiet s).preserves
  have he := (endInStop_preserves _ .writeFault).after ((sendStop_quiet (dropGateAndReport s)).preserves.after hd)
  unfold losePermit
  dsimp only
  split
  · exact he
  · exact he
  · exact hd

theorem reactPermit_preserves (level : Bool) : Preserves s (reactPermit u level s) := by
  have hp : Quiet s (if (s.link u).lines.ready then raiseCause .permitChanged u s else s) :=
    Quiet.ite (raiseCause_quiet s _ u) (Quiet.refl s)
  exact Preserves.ite ((losePermit_preserves _).after hp.preserves) hp.preserves

theorem acceptRequest_preserves (st : UnitState) : Preserves s (acceptRequest u st s) := by
  unfold acceptRequest
  extract_lets t
  have ht : Calm s t :=
    (Quiet.toCalm (invalidate_quiet _ u)).after ((releaseUnit_calm _).after (Quiet.setUnitState u st).toCalm)
  split
  · rename_i a ha
    exact ⟨ht.keeps.trans (conclude_keeps (State.command_of_active ha) _ _), fun _ => conclude_idle_course _ rfl rfl⟩
  · rename_i hna
    exact ⟨ht.keeps.trans (enterIdle_calm t (State.command_eq_none.mpr hna)).keeps, fun _ => enterIdle_course t rfl rfl⟩

theorem unrequestedRewind_preserves : Preserves s (unrequestedRewind u s) := by
  have h : Quiet s (invalidate u (s.setUnitState u .rewinding)) := (invalidate_quiet _ u).after (Quiet.setUnitState u _)
  exact Preserves.ite ((lossOfUnit_preserves _).after h.preserves) h.preserves

theorem reactRewindingRise_preserves : Preserves s (reactRewindingRise u s) := by
  have hun := unrequestedRewind_preserves u s
  unfold reactRewindingRise
  split
  · split
    · exact acceptRequest_preserves u s _
    · exact hun
  · exact hun
  · exact hun
  · exact hun
  · exact hun
  · exact Preserves.refl s

theorem reactRewindingFall_quiet : Quiet s (reactRewindingFall u s) := by
  have h : Quiet s (if (s.link u).lines.ready then
      let s := s.setUnitState u .idle
      if (s.link u).lines.loadPoint then raiseCause .rewound u s else s
    else s) := Quiet.ite (Quiet.ite ((raiseCause_quiet _ _ u).after (Quiet.setUnitState u _)) (Quiet.setUnitState u _))
      (Quiet.refl s)
  unfold reactRewindingFall
  split
  · exact h
  · exact h
  · exact Quiet.refl s

theorem leaveRamp_quiet {a : Active} {s : State} (h : s.command = some a.cmd) : Quiet s (leaveRamp a s) := by
  have hp := fun p n => enterPhase_quiet h p n
  exact Quiet.ite (Quiet.ite (hp _ _) (hp _ _)) (Quiet.ite (Quiet.ite (hp _ _) (hp _ _)) (hp _ _))

theorem atSpeedReport_quiet : Quiet s (atSpeedReport s) := by
  unfold atSpeedReport
  split
  · rename_i a ha
    have h := State.command_of_active ha
    have hs : Quiet s (startSearch s) := Quiet.setFr _ _
    split
    · have hr : Quiet s (if a.cmd.code.readClass then startSearch s else s) := Quiet.ite hs (Quiet.refl s)
      exact (leaveRamp_quiet (hr.active_of_command h)).after hr
    · exact Quiet.after (Quiet.setOc (by exact h)) hs
    · exact Quiet.refl s
  · exact Quiet.refl s

theorem reactAtSpeedRise_quiet : Quiet s (reactAtSpeedRise u s) := by
  unfold reactAtSpeedRise
  refine Quiet.ite ?_ (Quiet.refl s)
  split
  · exact (atSpeedReport_quiet _).after (Quiet.after (Quiet.setTlc (fun _ => rfl) rfl) (Quiet.setUnitState u _))
  · exact Quiet.refl s

theorem lossOfSpeed_preserves : Preserves s (lossOfSpeed s) :=
  (endInStop_preserves _ _).after <| (readerAtEvent_quiet _).preserves.after <| (dropGateAndReport_quiet _).preserves.after
    (sendStop_quiet s).preserves

theorem stopComplete_preserves : Preserves s (stopComplete u s) := by
  unfold stopComplete
  extract_lets s1 t s2
  have h2 : Quiet s s2 := Quiet.after (Quiet.setTlc (fun _ => rfl) rfl) (Quiet.setUnitState u _)
  split
  · rename_i ho
    exact ⟨h2.toCalm.keeps.trans (stopDone_calm s2 (State.command_eq_none.mpr (by simp [ho]))).keeps,
      fun _ => enterIdle_course _ rfl rfl⟩
  · exact (Quiet.ite ((turnToReverse_quiet s2).after h2) h2).preserves
  · exact h2.preserves

theorem reactMovingFall_preserves : Preserves s (reactMovingFall u s) :=
  Preserves.ite
    (Preserves.ite (stopComplete_preserves u s) (Preserves.ite (lossOfSpeed_preserves s) (Preserves.refl s)))
    (Preserves.refl s)

variable {u s} {f : State → State}

theorem lineEvent_preserves (k : Line) (b : Bool) (hf : ∀ s, Preserves s (f s)) : Preserves s (lineEvent u k b f s) :=
  Preserves.ite (Preserves.refl s)
    (Preserves.ite (Quiet.setLine u k b).preserves
      ((hf _).after ((Quiet.setLine u k b).preserves.after (takeDueReset_preserves s))))

theorem ifPresent_preserves (hf : ∀ s, Preserves s (f s)) (s : State) : Preserves s (ifPresent u f s) :=
  Preserves.ite (hf s) (Preserves.refl s)

end Lines

/-! ### Pulses, timers and the RESET input -/

section Events
variable (s : State)

theorem takeLanePulse_quiet (lane : Lane) (strong : Bool) : Quiet s (takeLanePulse lane strong s) := by
  unfold takeLanePulse
  split
  · exact Quiet.refl s
  · split
    · exact Quiet.setFr _ _
    · exact Quiet.ite (openFrame_quiet s lane strong) (Quiet.refl s)

theorem takeHalfPeriod_quiet : Quiet s (takeHalfPeriod s) := Quiet.setFr _ _

theorem takeAtSpeedTimeout_preserves : Preserves s (takeAtSpeedTimeout s) :=
  Preserves.ite
    ((endInStop_preserves _ _).after
      (Quiet.preserves ((sendStop_quiet _).after (Quiet.setTlc (fun _ => rfl) rfl))))
    (Preserves.refl s)

theorem takeAcceptanceTimeout_preserves : Preserves s (takeAcceptanceTimeout s) :=
  Preserves.ite
    ((endInStop_preserves _ _).after
      (Quiet.preserves ((sendStop_quiet _).after (Quiet.setTlc (fun _ => rfl) rfl))))
    (Preserves.refl s)

theorem stopFault_spec (u : UnitId) :
    Calm s (stopFault u s) ∧ (stopFault u s).tlc.selected = none ∧ (stopFault u s).fw.gate = false := by
  have hr : Calm s (releaseUnit (raiseCause .stopFault u (s.setUnitState u .idle))) :=
    (releaseUnit_calm _).after ((raiseCause_quiet _ _ u).after (Quiet.setUnitState u _)).toCalm
  have hq := readerAtStop_quiet (releaseUnit (raiseCause .stopFault u (s.setUnitState u .idle))) .idle
  exact ⟨hr.trans hq.toCalm, hq.selected, Bool.eq_false_iff.mpr fun h => absurd (hq.gate h) nofun⟩

theorem takeStopTimeout_preserves : Preserves s (takeStopTimeout s) := by
  unfold takeStopTimeout
  split
  · exact Preserves.refl s
  · rename_i u _
    refine Preserves.ite ?_ (Preserves.refl s)
    obtain ⟨hc, hsel, hg⟩ := stopFault_spec s u
    dsimp only
    split
    · rename_i a ha
      exact ⟨hc.keeps.trans (conclude_keeps (State.command_of_active ha) _ _), fun _ => conclude_idle_course _ hsel hg⟩
    · rename_i hna
      exact ⟨hc.keeps.trans (enterIdle_calm _ (State.command_eq_none.mpr hna)).keeps, fun _ => enterIdle_course _ hsel hg⟩

/-- Settles O5: each promise of the reset state is a closed fact. -/
theorem resetStateIsSound : Obligations.ResetStateIsSound := by
  unfold Obligations.ResetStateIsSound
  refine ⟨?_, ?_, ?_, ?_, ?_, ?_⟩ <;> decide

theorem hardwareReset_preserves : Preserves s (hardwareReset s) := by
  obtain ⟨hcap, hcat, -, -, htags, howners⟩ := resetStateIsSound
  have hp : headDistanceOk Profile.reset.headDistance := by decide
  exact ⟨⟨rfl, fun _ => hcap, fun _ => hcat, fun _ => ⟨hp, hp, hp, hp, nofun⟩, fun _ => htags, fun _ => howners⟩,
    fun _ => ⟨⟨fun _ => rfl, fun _ => rfl⟩, nofun, fun _ => rfl, fun h => absurd rfl h.1, nofun, nofun⟩⟩

theorem resetRelease_preserves : Preserves s (resetRelease s) :=
  Preserves.ite (Quiet.preserves (Quiet.after (Quiet.setTlc (fun u => by rw [PerUnit.get_map]; rfl) rfl) (Quiet.setHw id)))
    (Preserves.refl s)

/-! ### The register window -/

theorem takeStatusRead_quiet : Quiet s (takeStatusRead s) :=
  Quiet.after (Quiet.setHw id) (Quiet.setHw fun _ => Nat.zero_le _)

theorem takeCatinfoRead_quiet : Quiet s (takeCatinfoRead s) := Quiet.after (Quiet.setHw id) (Quiet.setRc fun _ => id)

/-- A buffer whose pointer moves within its limit. -/
theorem BufferUnit.Sound.setPointer (bu : BufferUnit) (i : BufferId) {p : Nat} (hp : p ≤ Config.recordBytes) :
    bu.Sound (bu.setBuffer i { bu.buffer i with pointer := p }) :=
  BufferUnit.Sound.setBuffer rfl fun ⟨_, hf, hw, hk⟩ => ⟨hp, hf, hw, hk⟩

theorem portRead_quiet : Quiet s (portRead s) :=
  Quiet.ite (Quiet.after (Quiet.setHw id) (Quiet.setBu (BufferUnit.Sound.setPointer _ _ (nextPointer_le _))))
    (Quiet.after (Quiet.setHw id) (Quiet.setHw id))

theorem takePull_quiet : Quiet s (takePull s) := by
  refine Quiet.ite (Quiet.after (Quiet.setHw id) (Quiet.setHw id)) (Quiet.after (Quiet.setHw id) (Quiet.setBu ?_))
  rw [BufferUnit.settleDelivery_eq]
  exact BufferUnit.Sound.of_stream _ rfl fun h => (List.length_drop ▸ Nat.sub_le _ 2).trans h

theorem takeBufptrWrite_quiet (w : Word) : Quiet s (takeBufptrWrite w s) :=
  if h : Config.recordBytes < w.toNat then by
    rw [takeBufptrWrite, if_pos h]
    exact Quiet.setHw id
  else by
    rw [takeBufptrWrite, if_neg h]
    exact Quiet.setBu (BufferUnit.Sound.setPointer _ _ (Nat.not_lt.mp h))

theorem portWrite_quiet (w : Word) : Quiet s (portWrite w s) := by
  cases ho : s.bu.portOpen
  · rw [portWrite_of_closed w ho]
    exact Quiet.setHw id
  · rw [portWrite_of_open w ho]
    obtain ⟨-, hp⟩ := s.bu.portOpen_iff.mp ho
    exact Quiet.setBu (BufferUnit.Sound.setBuffer rfl fun h => RecordBuffer.storeWord_ok w h hp)

theorem takePush_quiet (w : Word) : Quiet s (takePush w s) := by
  by_cases ha : s.pushAccepted = true
  · rw [takePush_of_accepted w ha]
    obtain ⟨hroom, -, -⟩ := s.pushAccepted_iff.mp ha
    exact Quiet.setBu (BufferUnit.Sound.of_stream _ rfl fun _ => by
      simpa [BufferUnit.pushWord, Config.streamSize] using hroom)
  · rw [takePush_of_refused w ha]
    exact Quiet.setHw id

theorem takeBufselWrite_quiet (w : Word) : Quiet s (takeBufselWrite w s) := Quiet.setBu (BufferUnit.Sound.of_stream _ rfl id)

theorem takeDmasrcWrite_quiet (w : Word) : Quiet s (takeDmasrcWrite w s) := Quiet.setBu (BufferUnit.Sound.of_stream _ rfl id)

theorem takeIntenWrite_quiet (w : Word) : Quiet s (takeIntenWrite w s) := Quiet.setHw id

theorem takeCatselWrite_quiet (w : Word) : Quiet s (takeCatselWrite w s) := Quiet.setRc fun _ => id

theorem stage_discards (n : Nat) (w : Word) (hw : HostWindow) : (stage n w hw).discards = hw.discards := by
  unfold stage
  split <;> rfl

theorem takeRegisterWrite_preserves (offset : BitVec 6) (w : Word) : Preserves s (takeRegisterWrite offset w s) := by
  unfold takeRegisterWrite
  split
  · split
    · exact takeAction_preserves _ s
    · exact Preserves.refl s
  · exact takeGo_preserves _ s
  · exact (takeIntenWrite_quiet s w).preserves
  · exact (takeBufselWrite_quiet s w).preserves
  · exact (takeBufptrWrite_quiet s w).preserves
  · exact (portWrite_quiet s w).preserves
  · exact (takePush_quiet s w).preserves
  · exact (takeDmasrcWrite_quiet s w).preserves
  · exact (takeCatselWrite_quiet s w).preserves
  · exact Quiet.preserves (Quiet.setHw fun h => by rw [stage_discards]; exact h)

theorem dackRead_quiet : Quiet s (dackRead s) := by
  unfold dackRead
  split
  · exact Quiet.after (Quiet.setHw id) (Quiet.setHw id)
  · exact portRead_quiet s
  · exact portRead_quiet s
  · exact takePull_quiet s

theorem dackWrite_quiet (w : Word) : Quiet s (dackWrite w s) := by
  unfold dackWrite
  split
  · exact Quiet.setHw id
  · exact portWrite_quiet s w
  · exact portWrite_quiet s w
  · exact takePush_quiet s w

end Events

/-! ### Every row -/

section Exec
variable {s : State} {f : State → State}

theorem event_preserves (hf : ∀ s, Preserves s (f s)) (s : State) : Preserves s (event f s) :=
  Preserves.ite (Preserves.refl s) ((hf _).after (takeDueReset_preserves s))

theorem event_quiet_preserves (hf : ∀ s, Quiet s (f s)) (s : State) : Preserves s (event f s) :=
  event_preserves (fun s => (hf s).preserves) s

theorem readEvent_preserves (hf : ∀ s, Quiet s (f s)) (s : State) : Preserves s (readEvent f s) :=
  Preserves.ite (Quiet.preserves (Quiet.setHw id)) ((hf _).preserves.after (takeDueReset_preserves s))

theorem goEvent_preserves (hf : ∀ s, Preserves s (f s)) (s : State) : Preserves s (goEvent f s) :=
  Preserves.ite (Preserves.refl s) (hf s)

theorem goRow_preserves (code : Option CommandCode) (s : State) : Preserves s (goEvent (goWith code) s) :=
  goEvent_preserves (fun s => Preserves.ite (takeGo_preserves code s) (Preserves.refl s)) s

/-- Every row of the table answers a next state that keeps every promise. -/
theorem exec_preserves (i : Instr) (s : State) : ∃ t, exec i s = .next t ∧ Preserves s t := by
  cases i with
  | write | writeStream | writeMark | eraseGap | read | readStream | space | spaceMarks | locate | rewind | unload
  | setOrdinal | loadProfile | badCode => exact ⟨_, rfl, goRow_preserves _ s⟩
  | abort => exact ⟨_, rfl, event_preserves takeAbort_preserves s⟩
  | flush => exact ⟨_, rfl, event_preserves takeFlush_preserves s⟩
  | controlReset => exact ⟨_, rfl, event_preserves takeControlReset_preserves s⟩
  | pop => exact ⟨_, rfl, event_preserves takePop_preserves s⟩
  | clearAttention u => exact ⟨_, rfl, event_preserves (clearCauses_preserves u) s⟩
  | registerWrite offset w =>
    refine ⟨_, rfl, ?_⟩
    exact Preserves.ite (goEvent_preserves (fun s => takeRegisterWrite_preserves s offset w) s)
      (event_preserves (fun s => takeRegisterWrite_preserves s offset w) s)
  | statusRead => exact ⟨_, rfl, readEvent_preserves takeStatusRead_quiet s⟩
  | intenWrite w => exact ⟨_, rfl, event_quiet_preserves (takeIntenWrite_quiet · w) s⟩
  | catselWrite w => exact ⟨_, rfl, event_quiet_preserves (takeCatselWrite_quiet · w) s⟩
  | catinfoRead => exact ⟨_, rfl, readEvent_preserves takeCatinfoRead_quiet s⟩
  | bufselWrite w => exact ⟨_, rfl, event_quiet_preserves (takeBufselWrite_quiet · w) s⟩
  | bufptrWrite w => exact ⟨_, rfl, event_quiet_preserves (takeBufptrWrite_quiet · w) s⟩
  | bufdataWrite w => exact ⟨_, rfl, event_quiet_preserves (portWrite_quiet · w) s⟩
  | bufdataRead => exact ⟨_, rfl, readEvent_preserves portRead_quiet s⟩
  | push w => exact ⟨_, rfl, event_quiet_preserves (takePush_quiet · w) s⟩
  | pull => exact ⟨_, rfl, readEvent_preserves takePull_quiet s⟩
  | dmasrcWrite w => exact ⟨_, rfl, event_quiet_preserves (takeDmasrcWrite_quiet · w) s⟩
  | dackAccess access =>
    cases access with
    | read => exact ⟨_, rfl, readEvent_preserves dackRead_quiet s⟩
    | write w => exact ⟨_, rfl, event_quiet_preserves (dackWrite_quiet · w) s⟩
  | hardwareReset => exact ⟨_, rfl, hardwareReset_preserves s⟩
  | resetRelease => exact ⟨_, rfl, resetRelease_preserves s⟩
  | presentRise u => exact ⟨_, rfl, lineEvent_preserves _ _ fun s => (reactPresentRise_quiet u s).preserves⟩
  | presentFall u => exact ⟨_, rfl, lineEvent_preserves _ _ fun s => loseUnit_preserves u s _⟩
  | readyRise u =>
    exact ⟨_, rfl, lineEvent_preserves _ _ (ifPresent_preserves fun s => (reactReadyRise_quiet u s).preserves)⟩
  | readyFall u => exact ⟨_, rfl, lineEvent_preserves _ _ (ifPresent_preserves (reactReadyFall_preserves u))⟩
  | loadPointRise u => exact ⟨_, rfl, lineEvent_preserves _ _ (ifPresent_preserves (reactLoadPointRise_preserves u))⟩
  | endMarkerRise u => exact ⟨_, rfl, lineEvent_preserves _ _ (ifPresent_preserves (reactEndMarkerRise_preserves u))⟩
  | endRise u => exact ⟨_, rfl, lineEvent_preserves _ _ (ifPresent_preserves (reactEndRise_preserves u))⟩
  | writePermitChange u level =>
    exact ⟨_, rfl, lineEvent_preserves _ _ (ifPresent_preserves fun s => reactPermit_preserves u s level)⟩
  | rewindingRise u => exact ⟨_, rfl, lineEvent_preserves _ _ (ifPresent_preserves (reactRewindingRise_preserves u))⟩
  | rewindingFall u =>
    exact ⟨_, rfl, lineEvent_preserves _ _ (ifPresent_preserves fun s => (reactRewindingFall_quiet u s).preserves)⟩
  | atSpeedRise u =>
    exact ⟨_, rfl, lineEvent_preserves _ _ (ifPresent_preserves fun s => (reactAtSpeedRise_quiet u s).preserves)⟩
  | atSpeedFall u =>
    exact ⟨_, rfl, lineEvent_preserves _ _ (ifPresent_preserves fun s =>
      Preserves.ite (lossOfSpeed_preserves s) (Preserves.refl s))⟩
  | movingFall u => exact ⟨_, rfl, lineEvent_preserves _ _ (ifPresent_preserves (reactMovingFall_preserves u))⟩
  | liveLineChange u change => exact ⟨_, rfl, lineEvent_preserves _ _ Preserves.refl⟩
  | echo u => exact ⟨_, rfl, event_preserves (ifSelected_preserves · u fun s => (takeEcho_quiet s).preserves) s⟩
  | distanceTick u => exact ⟨_, rfl, event_preserves (takeTick_preserves u) s⟩
  | frameClose => exact ⟨_, rfl, event_preserves closeFrame_preserves s⟩
  | readLanePulse u lane strong =>
    exact ⟨_, rfl, event_preserves (ifSelected_preserves · u fun s => (takeLanePulse_quiet s lane strong).preserves) s⟩
  | halfPeriodPoint => exact ⟨_, rfl, event_quiet_preserves takeHalfPeriod_quiet s⟩
  | atSpeedTimeout => exact ⟨_, rfl, event_preserves takeAtSpeedTimeout_preserves s⟩
  | acceptanceTimeout => exact ⟨_, rfl, event_preserves takeAcceptanceTimeout_preserves s⟩
  | stopTimeout => exact ⟨_, rfl, event_preserves takeStopTimeout_preserves s⟩
  | echoDeadline => exact ⟨_, rfl, event_preserves takeEchoDeadline_preserves s⟩
  | runBreak => exact ⟨_, rfl, event_preserves takeRunBreak_preserves s⟩
  | closeLimit => exact ⟨_, rfl, event_preserves takeCloseLimit_preserves s⟩
  | searchLimit => exact ⟨_, rfl, event_preserves takeSearchLimit_preserves s⟩
  | guardEnd => exact ⟨_, rfl, event_preserves takeGuardEnd_preserves s⟩
  | leaderEnd => exact ⟨_, rfl, event_preserves takeLeaderEnd_preserves s⟩
  | lcfPlace => exact ⟨_, rfl, event_preserves takeCheckSpaceEnd_preserves s⟩
  | drainDeadline => exact ⟨_, rfl, event_preserves (takeDeadline_preserves · _) s⟩
  | trailerPlacement => exact ⟨_, rfl, event_preserves takeTrailerPlacement_preserves s⟩
  | trailerDeadline => exact ⟨_, rfl, event_preserves (takeDeadline_preserves · _) s⟩
  | rewriteGapEnd => exact ⟨_, rfl, event_preserves takeRewriteGapEnd_preserves s⟩
  | eraseEnd => exact ⟨_, rfl, event_preserves takeEraseEnd_preserves s⟩
  | endOfFinish => exact ⟨_, rfl, event_preserves takeEndOfFinish_preserves s⟩
  | startFromRest => exact ⟨_, rfl, event_preserves takeStart_preserves s⟩
  | nonMediumCommandExecution => exact ⟨_, rfl, event_preserves takeNonMedium_preserves s⟩
  | controlResetEffect => exact ⟨_, rfl, event_preserves Preserves.refl s⟩

/-- Settles O2. -/
theorem everyCommandIsTaken : Obligations.EveryCommandIsTaken := fun c s =>
  have ⟨t, ht, hp⟩ := exec_preserves c s
  ⟨t, ht, hp.pending⟩

/-- Settles O1: the two arms of the step. -/
theorem stepTakesFrontOrIdles : Obligations.StepTakesFrontOrIdles := by
  refine ⟨fun c rest s h => ?_, fun s h => ?_⟩ <;> simp only [step, h]
  rfl

/-- A step is a row of the table on the state with the waiting commands shorter, which no promise speaks of, or no change. -/
theorem step_cases {t : State} (h : step s = .next t) :
    t = s ∨ ∃ c rest, s.pending = c :: rest ∧ Preserves (s.setPending rest) t := by
  obtain ⟨hfront, hidle⟩ := stepTakesFrontOrIdles
  cases hp : s.pending with
  | nil => exact .inl (Host.Outcome.next.inj (h.symm.trans (hidle s hp)))
  | cons c rest =>
    obtain ⟨r, hr, hkeep⟩ := exec_preserves c (s.setPending rest)
    obtain rfl : t = r := Host.Outcome.next.inj (h.symm.trans ((hfront c rest s hp).trans hr))
    exact .inr ⟨c, rest, rfl, hkeep⟩

/-- Settles O6. -/
theorem capacitiesKeptByEveryStep : Obligations.CapacitiesKeptByEveryStep := fun s t hs h => by
  rcases step_cases h with rfl | ⟨_, _, -, hp⟩
  · exact hs
  · exact hp.capacity hs

/-- Settles O7. -/
theorem cataloguesKeptByEveryStep : Obligations.CataloguesKeptByEveryStep := fun s t hs h => by
  rcases step_cases h with rfl | ⟨_, _, -, hp⟩
  · exact hs
  · exact hp.catalogues hs

/-- Settles O8. -/
theorem profilesKeptByEveryStep : Obligations.ProfilesKeptByEveryStep := fun s t hs h => by
  rcases step_cases h with rfl | ⟨_, _, -, hp⟩
  · exact hs
  · exact hp.profiles hs

/-- Settles O9. -/
theorem operationCourseKeptByEveryStep : Obligations.OperationCourseKeptByEveryStep := fun s t hs h => by
  rcases step_cases h with rfl | ⟨_, _, -, hp⟩
  · exact hs
  · exact hp.course hs

/-- Settles O10. -/
theorem tagsStayDistinctInEveryStep : Obligations.TagsStayDistinctInEveryStep := fun s t hs h => by
  rcases step_cases h with rfl | ⟨_, _, -, hp⟩
  · exact hs
  · exact hp.tags hs

/-- Settles O11. -/
theorem bufferOwnersKeptByEveryStep : Obligations.BufferOwnersKeptByEveryStep := fun s t hs h => by
  rcases step_cases h with rfl | ⟨_, _, -, hp⟩
  · exact hs
  · exact hp.owners hs

end Exec

end Sys2Proof.Machine
end

section
/-! PROOF. The words of the register window (R203 to R209): a word read gives back the fields packed into it, each in its own bits. -/

namespace Sys2Proof.Machine

/-! ### The layout of a word -/

/-- A field of a word: its value, its lowest bit and its width. -/
structure Field where
  value : Nat
  low : Nat
  width : Nat

/-- The fields stand one above the other from bit `low` on, each value within its width. -/
def laidOut (low : Nat) : List Field → Prop
  | [] => True
  | f :: rest => low ≤ f.low ∧ f.value < 2 ^ f.width ∧ laidOut (f.low + f.width) rest

/-- The word of the fields. -/
def wordOf (fields : List Field) : Word := packWord (fields.map fun f => (f.value, f.low))

/-- The number that the fields make. -/
def fieldSum (fields : List Field) : Nat := (fields.map fun f => f.value * 2 ^ f.low).sum

theorem wordOf_eq (fields : List Field) : wordOf fields = BitVec.ofNat 16 (fieldSum fields) := by
  simp [wordOf, packWord, fieldSum, Function.comp_def]

theorem fieldSum_dvd {low : Nat} {fields : List Field} (h : laidOut low fields) : 2 ^ low ∣ fieldSum fields := by
  induction fields generalizing low with
  | nil => simp [fieldSum]
  | cons f rest ih =>
    obtain ⟨hlow, -, hrest⟩ := h
    have hr := (pow_dvd_pow 2 (hlow.trans (Nat.le_add_right _ f.width))).trans (ih hrest)
    simpa [fieldSum] using Nat.dvd_add (Dvd.dvd.mul_left (pow_dvd_pow 2 hlow) f.value) hr

theorem laidOut_low_le {low : Nat} {fields : List Field} (h : laidOut low fields) {f : Field} (hf : f ∈ fields) :
    low ≤ f.low := by
  induction fields generalizing low with
  | nil => cases hf
  | cons g rest ih =>
    obtain ⟨hlow, -, hrest⟩ := h
    rcases List.mem_cons.mp hf with rfl | hf
    · exact hlow
    · exact (hlow.trans (Nat.le_add_right _ _)).trans (ih hrest hf)

/-- Shifted down to its lowest bit and cut to its width, the number gives the field back. -/
theorem fieldSum_field {low : Nat} {fields : List Field} (h : laidOut low fields) {f : Field} (hf : f ∈ fields) :
    fieldSum fields / 2 ^ f.low % 2 ^ f.width = f.value := by
  induction fields generalizing low with
  | nil => cases hf
  | cons g rest ih =>
    obtain ⟨-, hval, hrest⟩ := h
    obtain ⟨k, hk⟩ := fieldSum_dvd hrest
    have hsum : fieldSum (g :: rest) = g.value * 2 ^ g.low + fieldSum rest := by simp [fieldSum]
    rcases List.mem_cons.mp hf with rfl | hf
    · have e : fieldSum (f :: rest) = 2 ^ f.low * (f.value + 2 ^ f.width * k) := by
        rw [hsum, hk, pow_add]; ring
      rw [e, Nat.mul_div_cancel_left _ (Nat.two_pow_pos _), Nat.add_mul_mod_self_left, Nat.mod_eq_of_lt hval]
    · have hle := laidOut_low_le hrest hf
      have hlt : g.value * 2 ^ g.low < 2 ^ (g.low + g.width) := by
        rw [pow_add, mul_comm]
        exact Nat.mul_lt_mul_of_pos_left hval (Nat.two_pow_pos _)
      have e : fieldSum (g :: rest) / 2 ^ f.low = fieldSum rest / 2 ^ f.low := by
        obtain ⟨d, hd⟩ := Nat.exists_eq_add_of_le hle
        rw [hd, pow_add 2 (g.low + g.width) d, ← Nat.div_div_eq_div_mul, ← Nat.div_div_eq_div_mul, hsum, hk,
          Nat.add_mul_div_left _ _ (Nat.two_pow_pos _), Nat.div_eq_of_lt hlt, Nat.zero_add,
          Nat.mul_div_cancel_left _ (Nat.two_pow_pos _)]
      rw [e]
      exact ih hrest hf

/-- A field read back from its word (R204 to R209). -/
theorem wordOf_field {fields : List Field} (h : laidOut 0 fields) (f : Field) (hf : f ∈ fields)
    (htop : f.low + f.width ≤ 16) : ((wordOf fields).extractLsb' f.low f.width).toNat = f.value := by
  rw [wordOf_eq, BitVec.extractLsb'_toNat, BitVec.toNat_ofNat, Nat.shiftRight_eq_div_pow]
  obtain ⟨d, hd⟩ := Nat.exists_eq_add_of_le htop
  have e : 2 ^ 16 = 2 ^ f.low * 2 ^ (f.width + d) := by rw [← pow_add, ← Nat.add_assoc, ← hd]
  rw [e, Nat.mod_mul_right_div_self, Nat.mod_mod_of_dvd _ (pow_dvd_pow 2 (Nat.le_add_right f.width d)),
    fieldSum_field h hf]

theorem extractLsb'_one_toNat (w : Word) (n : Nat) : (w.extractLsb' n 1).toNat = (w.getLsbD n).toNat := by
  rw [BitVec.extractLsb'_toNat, Nat.shiftRight_eq_div_pow]
  exact (bitOf_getLsbD w n).symm.trans (bitOf_eq_toNat _)

/-- One flag of a word. -/
def Field.flag (b : Bool) (low : Nat) : Field := ⟨bitOf b, low, 1⟩

theorem wordOf_flag {fields : List Field} (h : laidOut 0 fields) (b : Bool) (low : Nat) (hf : Field.flag b low ∈ fields)
    (htop : low + 1 ≤ 16) : (wordOf fields).getLsbD low = b := by
  have e := wordOf_field h (Field.flag b low) hf htop
  rw [Field.flag, extractLsb'_one_toNat, bitOf_eq_toNat] at e
  revert e
  cases b <;> cases (wordOf fields).getLsbD low <;> simp

@[simp] theorem bitOf_le (b : Bool) : bitOf b ≤ 1 := by cases b <;> decide

theorem packWord_single {n : Nat} (h : n < 65536) : (packWord [(n, 0)]).toNat = n := by
  simp [packWord, h]

/-! ### The words that are read -/

section Read
variable {s : State}

/-- Out of reset a word of the window is that of its register. -/
theorem readWord_cmd (hr : s.hw.resetInput = false) : readWord 0x04 s = s.hw.cmd := by simp [readWord, wordOffset, hr]
theorem readWord_count (hr : s.hw.resetInput = false) : readWord 0x06 s = s.hw.count := by simp [readWord, wordOffset, hr]
theorem readWord_arg (hr : s.hw.resetInput = false) : readWord 0x08 s = s.hw.arg := by simp [readWord, wordOffset, hr]
theorem readWord_mode (hr : s.hw.resetInput = false) : readWord 0x0A s = s.hw.mode := by simp [readWord, wordOffset, hr]
theorem readWord_submit (hr : s.hw.resetInput = false) : readWord 0x0C s = s.cu.submitWord := by
  simp [readWord, wordOffset, hr]
theorem readWord_ring (hr : s.hw.resetInput = false) : readWord 0x1E s = s.cmp.ringWord := by
  simp [readWord, wordOffset, hr]
theorem readWord_bufsel (hr : s.hw.resetInput = false) : readWord 0x20 s = s.bu.selectWord := by
  simp [readWord, wordOffset, hr]
theorem readWord_streamLevel (hr : s.hw.resetInput = false) : readWord 0x28 s = packWord [(s.bu.stream.length, 0)] := by
  simp [readWord, wordOffset, hr]
theorem readWord_dmasrc (hr : s.hw.resetInput = false) : readWord 0x2A s = packWord [(s.bu.dma.number, 0)] := by
  simp [readWord, wordOffset, hr]
theorem readWord_catsel (hr : s.hw.resetInput = false) : readWord 0x2C s = s.rc.selectWord := by
  simp [readWord, wordOffset, hr]
theorem readWord_catinfo (hr : s.hw.resetInput = false) : readWord 0x2E s = s.rc.takeSnapshot.snapshot.infoWord := by
  simp [readWord, wordOffset, hr]
theorem readWord_catnext (hr : s.hw.resetInput = false) : readWord 0x30 s = s.rc.snapshot.nextOrdinal := by
  simp [readWord, wordOffset, hr]
theorem readWord_tstat (hr : s.hw.resetInput = false) : readWord 0x38 s = (s.link s.rc.selectUnit).statusWord := by
  simp [readWord, wordOffset, hr]
theorem readWord_attn (hr : s.hw.resetInput = false) : readWord 0x3A s = s.tlc.attentionWord := by
  simp [readWord, wordOffset, hr]

/-- The seven completion head words. -/
theorem readWord_head (hr : s.hw.resetInput = false) :
    readWord 0x10 s = s.cmp.headWord 0 ∧ readWord 0x12 s = s.cmp.headWord 1 ∧ readWord 0x14 s = s.cmp.headWord 2 ∧
      readWord 0x16 s = s.cmp.headWord 3 ∧ readWord 0x18 s = s.cmp.headWord 4 ∧ readWord 0x1A s = s.cmp.headWord 5 ∧
      readWord 0x1C s = s.cmp.headWord 6 := by
  refine ⟨?_, ?_, ?_, ?_, ?_, ?_, ?_⟩ <;> simp [readWord, wordOffset, hr]

/-- The three words of the snapshot's entry. -/
theorem readWord_entry (hr : s.hw.resetInput = false) :
    readWord 0x32 s = s.rc.snapshot.entryWord 0 ∧ readWord 0x34 s = s.rc.snapshot.entryWord 1 ∧
      readWord 0x36 s = s.rc.snapshot.entryWord 2 := by
  refine ⟨?_, ?_, ?_⟩ <;> simp [readWord, wordOffset, hr]

end Read

/-! ### The completion words (R182, R188, R207) -/

section Completion
variable {r : Completion}

theorem CommandCode.ofNumber_number (c : CommandCode) : CommandCode.ofNumber c.number = some c := by cases c <;> rfl

theorem CommandCode.number_lt (c : CommandCode) : c.number < 16 := by cases c <;> decide

theorem CmdOutcome.number_lt (o : CmdOutcome) : o.number < 32 := by cases o <;> decide

/-- Word 0 as fields. -/
def Completion.identityFields (r : Completion) : List Field :=
  [⟨r.tag.toNat, 0, 4⟩, ⟨r.unit.val, 4, 2⟩, ⟨r.code.number, 6, 4⟩, ⟨r.outcome.number, 10, 5⟩,
    Field.flag r.ordinal.isSome 15]

theorem Completion.identityFields_laidOut (r : Completion) : laidOut 0 r.identityFields := by
  simp [laidOut, Completion.identityFields, Field.flag, CommandCode.number_lt, CmdOutcome.number_lt,
    r.tag.isLt, r.unit.isLt]

theorem Completion.word_zero (r : Completion) : r.word 0 = wordOf r.identityFields := rfl

/-- Word 5 as fields. -/
def Qualifiers.fields (q : Qualifiers) : List Field :=
  [.flag q.endWarning 0, .flag q.atLoadPoint 1, .flag q.corrected 2, .flag q.marginal 3, .flag q.skew 4,
    .flag q.staleDiscarded 5, .flag q.voidsSkipped 6, .flag q.fragments 7, .flag q.longRecord 8, .flag q.abortLate 9,
    .flag q.unsealed 10, .flag q.dataCheck 11, .flag q.overrun 12, .flag q.lengthExcess 13]

theorem Qualifiers.fields_laidOut (q : Qualifiers) : laidOut 0 q.fields := by
  simp [laidOut, Qualifiers.fields, Field.flag]

/-- Two fields that fill a word. -/
theorem packWord_pair {a b n : Nat} (hn : n ≤ 16) (ha : a < 2 ^ n) (hb : b < 2 ^ (16 - n)) :
    ((packWord [(a, 0), (b, n)]).extractLsb' 0 n).toNat = a ∧
      ((packWord [(a, 0), (b, n)]).extractLsb' n (16 - n)).toNat = b := by
  have h : laidOut 0 [⟨a, 0, n⟩, ⟨b, n, 16 - n⟩] := by simp [laidOut, ha, hb]
  exact ⟨wordOf_field h ⟨a, 0, n⟩ (by simp) (by simpa using hn), wordOf_field h ⟨b, n, 16 - n⟩ (by simp) (by simp; omega)⟩

end Completion

/-- Settles O33: each word is laid out field by field, and each field reads back. -/
theorem headWordsShowTheOldestRecord : Obligations.HeadWordsShowTheOldestRecord := by
  intro s hr
  obtain ⟨h0, h1, h2, h3, h4, h5, h6⟩ := readWord_head hr
  rw [h0, h1, h2, h3, h4, h5, h6, readWord_ring hr]
  refine ⟨fun r rest hring => ?oldest, fun hring => ?empty, fun hlen => ?ring⟩
  case empty => simp [CompletionUnit.headWord, hring]
  case ring =>
    have h : laidOut 0 [⟨s.cmp.ring.length, 0, 4⟩, Field.flag s.cmp.held.isSome 4] := by
      simp [laidOut, Field.flag]; omega
    exact ⟨wordOf_field h ⟨_, 0, 4⟩ (by simp) (by simp), wordOf_flag h _ 4 (by simp) (by simp)⟩
  case oldest =>
    have hw : ∀ n, s.cmp.headWord n = r.word n := fun n => by simp [CompletionUnit.headWord, hring]
    have hid := fun f hf => wordOf_field r.identityFields_laidOut f hf
    simp only [hw, r.word_zero]
    refine ⟨BitVec.eq_of_toNat_eq (hid ⟨r.tag.toNat, 0, 4⟩ (by simp [Completion.identityFields]) (by simp)),
      hid ⟨_, 4, 2⟩ (by simp [Completion.identityFields]) (by simp), ?code, ?outcome,
      wordOf_flag r.identityFields_laidOut _ 15 (by simp [Completion.identityFields]) (by simp), rfl, ?counts, ?qualifiers,
      ?failure⟩
    case code =>
      rw [hid ⟨r.code.number, 6, 4⟩ (by simp [Completion.identityFields]) (by simp), CommandCode.ofNumber_number]
    case outcome =>
      rw [hid ⟨r.outcome.number, 10, 5⟩ (by simp [Completion.identityFields]) (by simp)]
      cases r.outcome <;> rfl
    case counts =>
      intro hbytes hcopies hpassed hcorr hmarg hskew
      obtain ⟨b1, b2⟩ := packWord_pair (a := r.byteCount) (b := r.copies) (n := 13) (by decide) (by omega) (by omega)
      obtain ⟨p1, p2⟩ := packWord_pair (a := r.passed) (b := r.skew) (n := 12) (by decide) (by omega) (by omega)
      obtain ⟨c1, c2⟩ := packWord_pair (a := r.corrected) (b := r.marginal) (n := 8) (by decide) (by omega) (by omega)
      exact ⟨b1, b2, p1, p2, c1, c2⟩
    case qualifiers =>
      have hq := fun b n hf hn => wordOf_flag r.qualifiers.fields_laidOut b n hf hn
      rw [show r.word 5 = wordOf r.qualifiers.fields from rfl]
      refine ⟨hq _ 0 ?_ ?_, hq _ 1 ?_ ?_, hq _ 2 ?_ ?_, hq _ 3 ?_ ?_, hq _ 4 ?_ ?_, hq _ 5 ?_ ?_, hq _ 6 ?_ ?_, hq _ 7 ?_ ?_,
        hq _ 8 ?_ ?_, hq _ 9 ?_ ?_, hq _ 10 ?_ ?_, hq _ 11 ?_ ?_, hq _ 12 ?_ ?_, hq _ 13 ?_ ?_⟩ <;>
        simp [Qualifiers.fields]
    case failure =>
      cases hf : r.failure with
      | none => simp [Completion.word, hf, failureNumber, packWord]
      | some k => cases k <;> simp [Completion.word, hf, failureNumber, packWord]

/-! ### The staging registers and STATUS (R190, R191, R198, R204 to R206) -/

section Write
variable {s : State} {o : BitVec 6} {v : Word}

theorem exec_registerWrite (h : s.undisturbed = true) : exec (.registerWrite o v) s = .next (takeRegisterWrite o v s) := by
  refine congrArg Host.Outcome.next ?_
  split
  · exact goEvent_of_released s _ (State.undisturbed_released h)
  · exact event_of_undisturbed s _ h

theorem exec_statusRead (h : s.undisturbed = true) : exec .statusRead s = .next (takeStatusRead s) :=
  congrArg _ (readEvent_of_undisturbed s _ h)

/-- The bits a register names, as a mask. -/
theorem namedBits_eq_and (w : Word) (n : Nat) : namedBits w n = w &&& BitVec.ofNat 16 (2 ^ n - 1) := by
  apply BitVec.eq_of_toNat_eq
  rw [namedBits, BitVec.toNat_ofNat, BitVec.toNat_and, BitVec.toNat_ofNat]
  by_cases hn : n ≤ 16
  · have hp : 2 ^ n ≤ 2 ^ 16 := Nat.pow_le_pow_right (by decide) hn
    have hpos := Nat.two_pow_pos n
    rw [Nat.mod_eq_of_lt (a := 2 ^ n - 1) (by omega), Nat.and_two_pow_sub_one_eq_mod,
      Nat.mod_eq_of_lt ((Nat.mod_lt _ hpos).trans_le hp)]
  · obtain ⟨d, rfl⟩ := Nat.exists_eq_add_of_le (Nat.le_of_not_le hn)
    have hw : w.toNat < 2 ^ (16 + d) := w.isLt.trans_le (Nat.pow_le_pow_right (by decide) (Nat.le_add_right _ _))
    have hm : (2 ^ (16 + d) - 1) % 2 ^ 16 = 2 ^ 16 - 1 := by
      rw [pow_add]
      have := Nat.two_pow_pos d
      omega
    rw [Nat.mod_eq_of_lt hw, hm, Nat.and_two_pow_sub_one_eq_mod]

end Write

/-- Settles O21: the four offsets of the staging registers, each kept to its named bits. -/
theorem stagingRegistersHoldTheirFields : Obligations.StagingRegistersHoldTheirFields := by
  intro o v s h
  have hr := State.undisturbed_released h
  refine ⟨fun ho => ?_, fun ho => ?_, fun ho => ?_, fun ho => ?_, readWord_cmd hr, readWord_count hr, readWord_arg hr,
    readWord_mode hr⟩ <;> rw [exec_registerWrite h]
  · simp only [takeRegisterWrite, ho, stage, namedBits_eq_and]; rfl
  · simp only [takeRegisterWrite, ho, stage]; rfl
  · simp only [takeRegisterWrite, ho, stage]; rfl
  · simp only [takeRegisterWrite, ho, stage, namedBits_eq_and]; rfl

theorem HostAction.ofWord_eq_none {v : Word}
    (h : v.extractLsb' 0 3 = 0#3 ∨ v.extractLsb' 0 3 = 6#3 ∨ v.extractLsb' 0 3 = 7#3) : HostAction.ofWord v = none := by
  rcases h with h | h | h <;> simp [HostAction.ofWord, fieldOf, h]

/-- A register with no row and no staging field disregards a write. -/
theorem takeRegisterWrite_of_disregarded {o : BitVec 6} (v : Word) (s : State)
    (h : wordOffset o = 0x00 ∨ (0x10 ≤ wordOffset o ∧ wordOffset o ≤ 0x1E) ∨ wordOffset o = 0x28 ∨ 0x2E ≤ wordOffset o) :
    takeRegisterWrite o v s = s := by
  have hn : ∀ n, n ≠ 0x04 → n ≠ 0x06 → n ≠ 0x08 → n ≠ 0x0A → stage n v s.hw = s.hw := fun n h1 h2 h3 h4 => by
    unfold stage
    split <;> first | contradiction | rfl
  unfold takeRegisterWrite
  split
  all_goals first
    | omega
    | exact congrArg s.setHw (hn _ (by omega) (by omega) (by omega) (by omega))

/-- Settles O22. -/
theorem disregardedWritesChangeNothing : Obligations.DisregardedWritesChangeNothing := by
  intro o v s h ho
  rw [exec_registerWrite h]
  rcases ho with ho | ho | ho | ho | ⟨ho, hv⟩
  · rw [takeRegisterWrite_of_disregarded v s (.inl ho)]
  · rw [takeRegisterWrite_of_disregarded v s (.inr (.inl ho))]
  · rw [takeRegisterWrite_of_disregarded v s (.inr (.inr (.inl ho)))]
  · rw [takeRegisterWrite_of_disregarded v s (.inr (.inr (.inr ho)))]
  · simp only [takeRegisterWrite, ho, HostAction.ofWord_eq_none hv]

/-- Settles O23: the word is laid out before the flags are cleared. -/
theorem statusReadReturnsAndClears : Obligations.StatusReadReturnsAndClears := by
  intro s h hd
  have hl : laidOut 0 [.flag s.hw.accessRefused 0, .flag s.hw.streamRefused 1, .flag s.hw.abortIgnored 2,
      .flag s.hw.resetPending 3, .flag s.hw.resetDone 4, ⟨s.hw.discards, 8, 4⟩] := by
    simp [laidOut, Field.flag]; omega
  refine ⟨s.hw.statusWord, ?_, wordOf_flag hl _ 0 ?_ ?_, wordOf_flag hl _ 1 ?_ ?_, wordOf_flag hl _ 2 ?_ ?_,
    wordOf_flag hl _ 3 ?_ ?_, wordOf_flag hl _ 4 ?_ ?_, wordOf_field hl ⟨_, 8, 4⟩ ?_ ?_⟩
  · rw [exec_statusRead h]; rfl
  all_goals simp

/-! ### The catalogue and transport words (R142, R143, R189, R208) -/

theorem exec_catselWrite {s : State} (v : Word) (h : s.undisturbed = true) :
    exec (.catselWrite v) s = .next (takeCatselWrite v s) := congrArg _ (event_of_undisturbed s _ h)

theorem exec_catinfoRead {s : State} (h : s.undisturbed = true) : exec .catinfoRead s = .next (takeCatinfoRead s) :=
  congrArg _ (readEvent_of_undisturbed s _ h)

theorem packWord_append_zero (l : List (Nat × Nat)) (k : Nat) : packWord (l ++ [(0, k)]) = packWord l := by
  simp [packWord]

/-- CATINFO as fields. -/
theorem Snapshot.infoWord_fields {x : Snapshot} (hc : x.count ≤ 32) (hp : x.position ≤ 32) :
    (x.infoWord.extractLsb' 0 2).toNat = x.state.number ∧ (x.infoWord.extractLsb' 2 6).toNat = x.count ∧
      (x.infoWord.extractLsb' 8 6).toNat = x.position ∧ x.infoWord.extractLsb' 14 2 = 0#2 := by
  have hn : x.state.number < 4 := by cases x.state <;> decide
  have h : laidOut 0 [⟨x.state.number, 0, 2⟩, ⟨x.count, 2, 6⟩, ⟨x.position, 8, 6⟩, ⟨0, 14, 2⟩] := by
    simp [laidOut, hn]; omega
  rw [Snapshot.infoWord, ← packWord_append_zero _ 14]
  exact ⟨wordOf_field h ⟨x.state.number, 0, 2⟩ (by simp) (by simp), wordOf_field h ⟨_, 2, 6⟩ (by simp) (by simp),
    wordOf_field h ⟨_, 8, 6⟩ (by simp) (by simp), BitVec.eq_of_toNat_eq (wordOf_field h ⟨0, 14, 2⟩ (by simp) (by simp))⟩

/-- CATSEL, over its 128 values. -/
theorem selectWord_fields : ∀ (i : Fin 32) (u : UnitId),
    ((packWord [(i.val, 0), (u.val, 8)]).extractLsb' 0 5).toNat = i.val ∧
      ((packWord [(i.val, 0), (u.val, 8)]).extractLsb' 8 2).toNat = u.val ∧
      packWord [(i.val, 0), (u.val, 8)] &&& 0xFCE0#16 = 0 := by decide

/-- The second entry word as fields. -/
def RecordInfo.fields (e : RecordInfo) : List Field :=
  [⟨1, 0, 1⟩, .flag e.ident.isSome 1, ⟨e.kind.number, 2, 1⟩, ⟨((e.ident.map Ident.copy).getD 0).toNat, 3, 3⟩,
    ⟨e.trailer.number, 6, 2⟩, ⟨e.condition.number, 8, 2⟩, .flag e.long 10, ⟨0, 11, 5⟩]

theorem RecordInfo.fields_laidOut (e : RecordInfo) : laidOut 0 e.fields := by
  have hk : e.kind.number < 2 := by cases e.kind <;> decide
  have ht : e.trailer.number < 4 := by cases e.trailer <;> decide
  have hc : e.condition.number < 4 := by cases e.condition <;> decide
  have hi := ((e.ident.map Ident.copy).getD 0).isLt
  simp [laidOut, RecordInfo.fields, Field.flag, hk, ht, hc]
  exact hi

theorem Snapshot.entryWord_one {x : Snapshot} {e : RecordInfo} (h : x.entry = some e) :
    x.entryWord 1 = wordOf e.fields := by
  simp only [Snapshot.entryWord, h]
  exact (packWord_append_zero _ 11).symm

/-- TSTAT as fields. -/
def UnitLink.statusFields (l : UnitLink) : List Field :=
  [.flag l.lines.present 0, .flag l.lines.ready 1, .flag l.lines.loadPoint 2, .flag l.lines.endMarker 3,
    .flag l.lines.endLine 4, .flag l.lines.writePermit 5, .flag l.lines.rewinding 6, .flag l.lines.moving 7,
    .flag l.lines.atSpeed 8, .flag l.causes.becameReady 9, .flag l.causes.lostReady 10, .flag l.causes.rewound 11,
    .flag l.causes.unloaded 12, .flag l.causes.permitChanged 13, .flag l.causes.stopFault 14, .flag false 15]

theorem UnitLink.statusFields_laidOut (l : UnitLink) : laidOut 0 l.statusFields := by
  simp [laidOut, UnitLink.statusFields, Field.flag]

theorem UnitLink.statusWord_eq (l : UnitLink) : l.statusWord = wordOf l.statusFields :=
  (packWord_append_zero _ 15).symm

/-- ATTN, over its 16 values. -/
theorem attentionWord_bits : ∀ b0 b1 b2 b3 : Bool,
    let w := packWord [(bitOf b0, 0), (bitOf b1, 1), (bitOf b2, 2), (bitOf b3, 3)]
    w.getLsbD 0 = b0 ∧ w.getLsbD 1 = b1 ∧ w.getLsbD 2 = b2 ∧ w.getLsbD 3 = b3 ∧ w &&& 0xFFF0#16 = 0 := by decide

/-- Settles O25: the two accesses take the snapshot of the unit and index selected, and each word is laid out and read back. -/
theorem catalogueAccessesTakeASnapshot : Obligations.CatalogueAccessesTakeASnapshot := by
  intro s h taken
  have hr := State.undisturbed_released h
  obtain ⟨e0, e1, e2⟩ := readWord_entry hr
  rw [readWord_catinfo hr, readWord_catsel hr, readWord_catnext hr, e0, e1, e2, readWord_tstat hr, readWord_attn hr]
  refine ⟨fun v => ?select, ?read, rfl, fun x hc hp => ?info, selectWord_fields _ _, rfl, fun hn => ?absent, fun e he => ?entry,
    ?lines, ?attention⟩
  case select => rw [exec_catselWrite v h]; rfl
  case read => rw [exec_catinfoRead h]; rfl
  case info =>
    obtain ⟨hstate, hrest⟩ := Snapshot.infoWord_fields hc hp
    refine ⟨hstate.trans ?_, hrest⟩
    generalize x.state = state
    cases state <;> rfl
  case absent => simp [Snapshot.entryWord, hn]
  case entry =>
    have hfield := fun f hm => wordOf_field e.fields_laidOut f hm
    have hflag := fun b n hm => wordOf_flag e.fields_laidOut b n hm
    rw [Snapshot.entryWord_one he]
    intro w
    have hordinal : s.rc.snapshot.entryWord 0 = match e.ident with | some i => i.ordinal | none => 0 := by
      simp only [Snapshot.entryWord, he]
      cases e.ident <;> rfl
    have hkind : Field.flag (decide (e.kind = .mark)) 2 = ⟨e.kind.number, 2, 1⟩ := by cases e.kind <;> rfl
    have hcopy : (w.extractLsb' 3 3).toNat = ((e.ident.map Ident.copy).getD 0 : BitVec 3).toNat :=
      hfield ⟨((e.ident.map Ident.copy).getD 0).toNat, 3, 3⟩ (by simp [RecordInfo.fields]) (by simp)
    have htrailer := hfield ⟨e.trailer.number, 6, 2⟩ (by simp [RecordInfo.fields]) (by simp)
    have hcondition := hfield ⟨e.condition.number, 8, 2⟩ (by simp [RecordInfo.fields]) (by simp)
    have hzero := hfield ⟨0, 11, 5⟩ (by simp [RecordInfo.fields]) (by simp)
    have hlength (hl : e.length ≤ 4096) : (s.rc.snapshot.entryWord 2).toNat = e.length := by
      simp only [Snapshot.entryWord, he]
      exact packWord_single (by omega)
    refine ⟨hordinal, hflag true 0 (by simp [RecordInfo.fields, Field.flag, bitOf]) (by simp),
      hflag _ 1 (by simp [RecordInfo.fields]) (by simp), hflag _ 2 (by simp [RecordInfo.fields, hkind]) (by simp),
      (BitVec.eq_of_toNat_eq hcopy).trans ?_, htrailer.trans ?_, hcondition.trans ?_,
      hflag _ 10 (by simp [RecordInfo.fields]) (by simp), BitVec.eq_of_toNat_eq hzero, hlength⟩
    · cases e.ident <;> rfl
    · cases e.trailer <;> rfl
    · cases e.condition <;> rfl
  case lines =>
    have hf := fun b n hm hn => wordOf_flag (s.link s.rc.selectUnit).statusFields_laidOut b n hm hn
    rw [UnitLink.statusWord_eq]
    refine ⟨hf _ 0 ?_ ?_, hf _ 1 ?_ ?_, hf _ 2 ?_ ?_, hf _ 3 ?_ ?_, hf _ 4 ?_ ?_, hf _ 5 ?_ ?_, hf _ 6 ?_ ?_, hf _ 7 ?_ ?_,
      hf _ 8 ?_ ?_, hf _ 9 ?_ ?_, hf _ 10 ?_ ?_, hf _ 11 ?_ ?_, hf _ 12 ?_ ?_, hf _ 13 ?_ ?_, hf _ 14 ?_ ?_,
      hf _ 15 ?_ ?_⟩ <;> simp [UnitLink.statusFields]
  case attention =>
    obtain ⟨h0, h1, h2, h3, hzero⟩ := attentionWord_bits (s.link 0).causes.any (s.link 1).causes.any (s.link 2).causes.any
      (s.link 3).causes.any
    refine ⟨fun u => ?_, hzero⟩
    fin_cases u
    · exact h0
    · exact h1
    · exact h2
    · exact h3

/-! ### BUFSEL, DMASRC and DRQ (R169, R180, R209) -/

theorem exec_bufselWrite {s : State} (v : Word) (h : s.undisturbed = true) :
    exec (.bufselWrite v) s = .next (takeBufselWrite v s) := congrArg _ (event_of_undisturbed s _ h)

theorem exec_dmasrcWrite {s : State} (v : Word) (h : s.undisturbed = true) :
    exec (.dmasrcWrite v) s = .next (takeDmasrcWrite v s) := congrArg _ (event_of_undisturbed s _ h)

/-- A field above all others does not reach below itself, and cut to its width it leaves the word as it is. -/
theorem packWord_top (a b n k : Nat) (hk : k ≤ 16) :
    packWord [(a, 0), (b, 1), (n, k)] = packWord [(a, 0), (b, 1), (n % 2 ^ (16 - k), k)] := by
  obtain ⟨d, hd⟩ := Nat.exists_eq_add_of_le hk
  have e : n % 2 ^ (16 - k) * 2 ^ k = n * 2 ^ k % 2 ^ 16 := by
    rw [hd, Nat.add_sub_cancel_left, pow_add, mul_comm (2 ^ k) (2 ^ d), Nat.mul_mod_mul_right]
  apply BitVec.eq_of_toNat_eq
  simp only [packWord, List.map_cons, List.map_nil, List.sum_cons, List.sum_nil, BitVec.toNat_ofNat, e]
  omega

/-- The fields of BUFSEL, whatever the fill. -/
def BufferUnit.selectFields (bu : BufferUnit) : List Field :=
  [⟨bu.select.val, 0, 1⟩, .flag bu.selected.committed 1, ⟨bu.selected.fill % 2 ^ 14, 2, 14⟩]

theorem BufferUnit.selectFields_laidOut (bu : BufferUnit) : laidOut 0 bu.selectFields := by
  have := bu.select.isLt
  have := Nat.mod_lt bu.selected.fill (Nat.two_pow_pos 14)
  simp [laidOut, BufferUnit.selectFields, Field.flag]
  omega

theorem BufferUnit.selectWord_eq (bu : BufferUnit) : bu.selectWord = wordOf bu.selectFields :=
  packWord_top _ _ _ 2 (by decide)

theorem DmaSource.number_ofWord (v : Word) : (DmaSource.ofWord v).number = (v.extractLsb' 0 2).toNat := by
  have : ∀ x : BitVec 2, (match x.toNat with | 1 => DmaSource.bufferIn | 2 => .bufferOut | 3 => .stream | _ => .off).number =
      x.toNat := by decide
  exact this (v.extractLsb' 0 2)

/-- DRQ by its source (R180). -/
theorem State.drq_iff {s : State} (hr : s.hw.resetInput = false) :
    s.drq = true ↔
      (s.bu.dma = .bufferIn ∧ s.bu.portOpen = true) ∨
        (s.bu.dma = .bufferOut ∧ s.bu.selected.committed = false ∧ s.bu.selected.pointer < s.bu.selected.fill) ∨
        (s.bu.dma = .stream ∧ (s.pushAccepted = true ∨ (s.bu.delivery = true ∧ s.bu.stream ≠ []))) := by
  unfold State.drq
  cases s.bu.dma <;> simp [hr]

/-- Settles O26. -/
theorem bufferSelectAndDmaSourceSetDrq : Obligations.BufferSelectAndDmaSourceSetDrq := by
  intro v s h
  have hr := State.undisturbed_released h
  have hnumber : ∀ d : DmaSource, (match d with | .off => 0 | .bufferIn => 1 | .bufferOut => 2 | .stream => 3) = d.number :=
    fun d => by cases d <;> rfl
  rw [readWord_bufsel hr, readWord_streamLevel hr, readWord_dmasrc hr]
  refine ⟨?select, ⟨takeDmasrcWrite v s, exec_dmasrcWrite v h, rfl, ?source⟩, ?drq, ?bufsel, fun hl => packWord_single (by omega),
    ?dmasrc⟩
  case select => rw [exec_bufselWrite v h]; rfl
  case source => exact (DmaSource.number_ofWord v).symm.trans (hnumber _).symm
  case drq => rw [State.drq_iff hr, s.bu.portOpen_iff, s.pushAccepted_iff]
  case bufsel =>
    have hsel : (Field.flag (decide (s.bu.select = 1)) 0) = ⟨s.bu.select.val, 0, 1⟩ := by
      generalize s.bu.select = b
      fin_cases b <;> rfl
    have hl := s.bu.selectFields_laidOut
    rw [s.bu.selectWord_eq]
    refine ⟨wordOf_flag hl _ 0 (by simp [BufferUnit.selectFields, hsel]) (by simp),
      wordOf_flag hl _ 1 (by simp [BufferUnit.selectFields]) (by simp), fun hf => ?_⟩
    refine (wordOf_field hl ⟨s.bu.selected.fill % 2 ^ 14, 2, 14⟩ (by simp [BufferUnit.selectFields]) (by simp)).trans ?_
    exact Nat.mod_eq_of_lt (by omega)
  case dmasrc =>
    refine (packWord_single ?_).trans (hnumber _).symm
    cases s.bu.dma <;> decide

end Sys2Proof.Machine
end

section
/-! PROOF. The endings that many rows share: the stop, the release, the posting, and what the effect of a control reset leaves (R27, R58,
R59, R154, R170, R185, R199, R200). -/

namespace Sys2Proof.Machine

/-! ### Nothing in the way -/

theorem State.undisturbed_iff {s : State} :
    s.undisturbed = true ↔ s.hw.resetInput = false ∧ (s.hw.resetPending = true → s.resetPoint = false) := by
  unfold State.undisturbed
  cases s.hw.resetInput <;> cases s.hw.resetPending <;> simp

/-- At a point of R199 a command that meets nothing in its way finds no reset pending. -/
theorem State.notPending_of_point {s : State} (h : s.undisturbed = true) (hp : s.resetPoint = true) :
    s.hw.resetPending = false := by
  have := (State.undisturbed_iff.mp h).2
  cases hr : s.hw.resetPending
  · rfl
  · simp [this hr] at hp

/-! ### STOP (R27) -/

section Stop
variable {s r : State}

theorem sendStop_of_unselected (h : s.tlc.selected = none) : sendStop s = s := by simp [sendStop, h]

theorem sendStop_of_underWay {u : UnitId} (hs : s.tlc.selected = some u) (h : s.underWay u) :
    sendStop s =
      (s.setUnitState u (if (s.link u).lines.moving then .stopping else .idle)).setTlc
        { (s.setUnitState u (if (s.link u).lines.moving then .stopping else .idle)).tlc with
          request := some .stop, atSpeedTimer := false, acceptanceTimer := false, stopTimer := (s.link u).lines.moving } := by
  unfold sendStop
  rw [hs]
  rcases h with h | h | h <;> simp only [h]

theorem sendStop_of_not_underWay {u : UnitId} (hs : s.tlc.selected = some u) (h : ¬ s.underWay u) : sendStop s = s := by
  unfold State.underWay at h
  unfold sendStop
  rw [hs]
  dsimp only
  split <;> simp_all

/-- STOP and what follows it look at the link alone. -/
theorem sendStop_tlc_congr (h : s.tlc = r.tlc) : (sendStop s).tlc = (sendStop r).tlc := by
  have hl : ∀ u, s.link u = r.link u := fun u => by simp only [State.link, h]
  unfold sendStop
  rw [h]
  cases r.tlc.selected with
  | none => exact h
  | some u =>
    have hu : ∀ x, (s.setUnitState u x).tlc = (r.setUnitState u x).tlc := fun x => by
      simp only [State.setUnitState, State.setLink, State.setTlc, State.link, h]
    dsimp only
    rw [hl u]
    cases (r.link u).state <;> first | exact h | simp only [State.setTlc_tlc, hu]

theorem State.stopRunning_congr (h : s.tlc = r.tlc) : s.stopRunning = r.stopRunning := by
  simp only [State.stopRunning, State.link, h]
  rfl

theorem sendStop_link {u : UnitId} (hs : s.tlc.selected = some u) (h : s.underWay u) :
    ((sendStop s).link u).state = if (s.link u).lines.moving then .stopping else .idle := by
  rw [sendStop_of_underWay hs h]
  exact congrArg UnitLink.state (State.link_setLink s u _)

/-- A second STOP finds no unit under way. -/
theorem sendStop_sendStop (s : State) : sendStop (sendStop s) = sendStop s := by
  cases hs : s.tlc.selected with
  | none => rw [sendStop_of_unselected hs, sendStop_of_unselected hs]
  | some u =>
    by_cases h : s.underWay u
    · refine sendStop_of_not_underWay (u := u) (by rw [sendStop_selected, hs]) ?_
      have hst := sendStop_link hs h
      unfold State.underWay
      rw [hst]
      cases (s.link u).lines.moving <;> simp
    · rw [sendStop_of_not_underWay hs h, sendStop_of_not_underWay hs h]

/-- STOP keeps lines, causes and profiles. -/
theorem sendStop_frame (v : UnitId) :
    ((sendStop s).link v).lines = (s.link v).lines ∧ ((sendStop s).link v).causes = (s.link v).causes ∧
      ((sendStop s).link v).profile = (s.link v).profile := by
  rcases sendStop_cases s with e | ⟨u, -, e⟩ <;> rw [e]
  · exact ⟨rfl, rfl, rfl⟩
  · change ((s.setUnitState u _).link v).lines = _ ∧ ((s.setUnitState u _).link v).causes = _ ∧
      ((s.setUnitState u _).link v).profile = _
    by_cases hv : v = u
    · subst hv; simp [State.setUnitState]
    · simp only [State.setUnitState, State.link_setLink_other s _ hv, and_self]

/-! ### STOPPING and stop complete (R57, R59, R95) -/

/-- No run is in progress, or none is tracked: the end of a run finds nothing to break. -/
def FrameReader.nothingToBreak (fr : FrameReader) : Prop := fr.run = none ∨ ∀ rev, fr.mode ≠ .parse rev

theorem handOpenFrame_of_nothing (h : s.fr.nothingToBreak) : handOpenFrame s = s := by
  rcases handOpenFrame_cases s with e | ⟨x, r, rev, -, hr, hm, -⟩
  · exact e
  · rcases h with h | h
    · simp [h] at hr
    · exact absurd hm (h rev)

theorem breakClose_of_nothing (h : s.fr.nothingToBreak) : breakClose s = (s, .quiet) := by
  unfold breakClose
  rcases h with h | h
  · simp [h]
  · cases hm : s.fr.mode <;> simp_all

theorem breakOpen_of_nothing (h : s.fr.nothingToBreak) : breakOpen s = s.setFr { s.fr with run := none } := by
  unfold breakOpen
  rcases h with h | h
  · simp [h]
  · cases hm : s.fr.mode <;> simp_all

/-- At a stop with no run to break the reader is done and the catalogue stands. -/
theorem readerAtStop_of_nothing (m : ReaderMode) (h : s.fr.nothingToBreak) : readerAtStop m s = s.setFr (s.fr.leave m) := by
  simp only [readerAtStop, handOpenFrame_of_nothing h, breakClose_of_nothing h, noteClose, breakOpen_of_nothing h]
  rfl

theorem FrameReader.markFragments_out (fr : FrameReader) : fr.markFragments false = fr := rfl
theorem FrameReader.addTallies_out (fr : FrameReader) (t : Tallies) : fr.addTallies t false = fr := by
  simp [FrameReader.addTallies]

/-- With no command in force a break adds nothing to the account. -/
theorem closeRecord_account (r : OpenRecord) (h : Header) (t : Trailer) (rev : Bool) :
    (closeRecord r h t rev s).1.fr.account = s.fr.account := by
  unfold closeRecord placeForward placeReverse
  dsimp only
  repeat' split
  all_goals rfl

theorem State.inForce_eq_false (h : s.active = none) : s.inForce = false := by simp [State.inForce, h]

theorem breakForward_account (h : s.inForce = false) (x : Run) : (breakForward x s).1.fr.account = s.fr.account := by
  unfold breakForward
  repeat' split
  all_goals
    simp only [h, FrameReader.markFragments_out, FrameReader.addTallies_out, closeRecord_account, State.setFr_fr,
      FrameReader.takeLcf]

theorem breakReverse_account (h : s.inForce = false) (x : Run) : (breakReverse x s).1.fr.account = s.fr.account := by
  unfold breakReverse
  dsimp only
  repeat' split
  all_goals
    simp only [h, FrameReader.markFragments_out, FrameReader.addTallies_out, closeRecord_account, State.setFr_fr,
      FrameReader.takeLcf]

theorem breakClose_account (h : s.active = none) : (breakClose s).1.fr.account = s.fr.account := by
  have hf := State.inForce_eq_false h
  unfold breakClose
  split
  · split
    · exact breakForward_account hf _
    · exact breakForward_account (s := s.setFr { s.fr with run := none }) hf _
  · exact breakReverse_account (s := s.setFr { s.fr with run := none }) hf _
  · rfl

theorem breakOpen_account : (breakOpen s).fr.account = s.fr.account := by
  unfold breakOpen
  repeat' split
  all_goals rfl

theorem handOpenFrame_account : (handOpenFrame s).fr.account = s.fr.account := by
  rcases handOpenFrame_cases s with e | ⟨x, r, rev, -, -, -, -, e⟩ <;> (rw [e]; try rfl)

theorem readerAtStop_account (m : ReaderMode) (h : s.active = none) : (readerAtStop m s).fr.account = s.fr.account := by
  have hact : (handOpenFrame s).active = none := by
    unfold State.active; rw [(handOpenFrame_same s).2.2.1]; exact h
  have hn : (breakClose (handOpenFrame s)).1.active = none := by
    unfold State.active; rw [(breakClose_same _).2.2.1]; exact hact
  unfold readerAtStop
  dsimp only
  rw [noteClose_of_inactive _ _ hn]
  exact (breakOpen_account.trans (breakClose_account hact)).trans handOpenFrame_account

/-- What a stop complete leaves with no operation active: the reader done, the gate OFF, nothing selected, the OC IDLE. -/
theorem stopDone_blocks (h : s.active = none) :
    (stopDone s).hw = s.hw ∧ (stopDone s).cu = s.cu ∧ (stopDone s).vu = s.vu ∧ (stopDone s).bu = s.bu ∧
      (stopDone s).cmp = s.cmp ∧ (stopDone s).fw = { s.fw with gate := false } ∧
      (stopDone s).tlc = { s.tlc with selected := none, atSpeedTimer := false, acceptanceTimer := false, stopTimer := false } ∧
      (stopDone s).fr.account = s.fr.account ∧ (s.fr.nothingToBreak → (stopDone s).rc = s.rc) ∧
      (stopDone s).pending = s.pending := by
  obtain ⟨h1, h2, -, -, h5, h6, h7, h8, h9, h10⟩ := readerAtStop_same s .idle h
  refine ⟨h1, h2, h7, h8, h9, ?_, ?_, readerAtStop_account .idle h, fun hr => ?_, h10⟩
  · exact congrArg (fun fw : FrameWriter => { fw with gate := false }) h6
  · exact congrArg
      (fun t : TransportLink =>
        { t with selected := none, atSpeedTimer := false, acceptanceTimer := false, stopTimer := false }) h5
  · change (readerAtStop .idle s).rc = s.rc
    rw [readerAtStop_of_nothing .idle hr]
    rfl

/-- What STOPPING, or the stop already complete, leaves of the blocks. -/
theorem enterStopping_blocks (s : State) :
    (enterStopping s).hw = s.hw ∧ (enterStopping s).cu = s.cu ∧ (enterStopping s).vu = s.vu ∧ (enterStopping s).bu = s.bu ∧
      (enterStopping s).cmp = s.cmp ∧ (enterStopping s).fw.watch = s.fw.watch ∧ (enterStopping s).fw.acc = s.fw.acc ∧
      (enterStopping s).fw.account = s.fw.account ∧ (enterStopping s).fr.account = s.fr.account ∧
      (s.fr.nothingToBreak → (enterStopping s).rc = s.rc) ∧ (∀ u, (enterStopping s).link u = s.link u) ∧
      ((enterStopping s).oc = .stopping →
        enterStopping s = (s.setOc .stopping).setTimer s.timer.atStop) := by
  rcases enterStopping_cases s with ⟨-, e⟩ | ⟨-, e⟩
  · rw [e]; exact ⟨rfl, rfl, rfl, rfl, rfl, rfl, rfl, rfl, rfl, fun _ => rfl, fun _ => rfl, fun _ => rfl⟩
  · obtain ⟨h1, h2, h3, h4, h5, hfw, htlc, hfr, hrc, -⟩ :=
      stopDone_blocks (s := (s.setOc .stopping).setTimer s.timer.atStop) rfl
    rw [e]
    refine ⟨h1, h2, h3, h4, h5, ?_, ?_, ?_, hfr, hrc, fun u => ?_, nofun⟩
    · rw [hfw]; rfl
    · rw [hfw]; rfl
    · rw [hfw]; rfl
    · simp only [State.link, htlc]; rfl

@[simp] theorem enterStopping_hw (s : State) : (enterStopping s).hw = s.hw := (enterStopping_blocks s).1
@[simp] theorem enterStopping_cu (s : State) : (enterStopping s).cu = s.cu := (enterStopping_blocks s).2.1
@[simp] theorem enterStopping_vu (s : State) : (enterStopping s).vu = s.vu := (enterStopping_blocks s).2.2.1
@[simp] theorem enterStopping_bu (s : State) : (enterStopping s).bu = s.bu := (enterStopping_blocks s).2.2.2.1
@[simp] theorem enterStopping_cmp (s : State) : (enterStopping s).cmp = s.cmp := (enterStopping_blocks s).2.2.2.2.1

/-- The medium is stopped: STOP is sent, or has been sent with nothing else done to the link, and the OC enters STOPPING. -/
theorem stops_enterStopping (h : r.tlc = (sendStop s).tlc) : stops s (enterStopping r) := by
  have hrun : r.stopRunning = (sendStop s).stopRunning := State.stopRunning_congr h
  have hlink : ∀ u, (enterStopping r).link u = (sendStop s).link u := fun u => by
    obtain ⟨-, -, -, -, -, -, -, -, -, -, hl, -⟩ := enterStopping_blocks r
    rw [hl u]; simp only [State.link, h]
  have htlc : r.stopRunning = true → (enterStopping r).oc = .stopping ∧ (enterStopping r).tlc = (sendStop s).tlc :=
    fun hr => by
      rcases enterStopping_cases r with ⟨-, e⟩ | ⟨hn, -⟩
      · rw [e]; exact ⟨rfl, h⟩
      · simp [hn] at hr
  have hdone : r.stopRunning = false → (enterStopping r).oc = .idle ∧ (enterStopping r).tlc.selected = none ∧
      (enterStopping r).tlc.stopTimer = false ∧ (enterStopping r).tlc.request = (sendStop s).tlc.request := fun hr => by
    rcases enterStopping_cases r with ⟨hn, -⟩ | ⟨-, e⟩
    · simp [hn] at hr
    · obtain ⟨-, -, -, -, -, -, ht, -⟩ := stopDone_blocks (s := (r.setOc .stopping).setTimer r.timer.atStop) rfl
      rw [e, ht]
      exact ⟨rfl, rfl, rfl, show r.tlc.request = _ by rw [h]⟩
  refine ⟨?_, fun u hs => ⟨fun hu hm => ?_, fun hu hm => ?_, fun hst => ?_⟩⟩
  · cases hr : r.stopRunning
    · exact .inr ⟨(hdone hr).1, (hdone hr).2.1⟩
    · exact .inl (htlc hr).1
  · have hu' := sendStop_link hs hu
    rw [hm, if_pos rfl] at hu'
    have hr : r.stopRunning = true := by rw [hrun]; simp [State.stopRunning, sendStop_selected, hs, hu']
    obtain ⟨hoc, ht⟩ := htlc hr
    refine ⟨hoc, ?_, (congrArg UnitLink.state (hlink u)).trans hu', ?_, ?_⟩ <;> rw [ht]
    · rw [sendStop_selected, hs]
    · rw [sendStop_of_underWay hs hu]; rfl
    · rw [sendStop_of_underWay hs hu]; exact hm
  · have hu' := sendStop_link hs hu
    rw [hm, if_neg (by simp)] at hu'
    have hr : r.stopRunning = false := by rw [hrun]; simp [State.stopRunning, sendStop_selected, hs, hu']
    obtain ⟨hoc, -, htimer, hreq⟩ := hdone hr
    refine ⟨hoc, (congrArg UnitLink.state (hlink u)).trans hu', hreq.trans ?_, htimer⟩
    rw [sendStop_of_underWay hs hu]; rfl
  · have hnot : ¬ s.underWay u := by simp [State.underWay, hst]
    have e := sendStop_of_not_underWay hs hnot
    have hr : r.stopRunning = true := by rw [hrun, e]; simp [State.stopRunning, hs, hst]
    obtain ⟨hoc, ht⟩ := htlc hr
    rw [ht, hlink u, e]
    exact ⟨hoc, hs, hst, rfl, rfl⟩

end Stop

/-! ### The effect of a control reset (R199, R200) -/

section Reset
variable {s r : State}

/-- The description of a copy touches its account and the catalogue alone. -/
theorem endCopy_blocks (a : Active) (e : CopyEnding) :
    (endCopy a e s).hw = s.hw ∧ (endCopy a e s).cu = s.cu ∧ (endCopy a e s).oc = s.oc ∧ (endCopy a e s).timer = s.timer ∧
      (endCopy a e s).tlc = s.tlc ∧ (endCopy a e s).fr = s.fr ∧ (endCopy a e s).vu = s.vu ∧ (endCopy a e s).bu = s.bu ∧
      (endCopy a e s).cmp = s.cmp ∧ (endCopy a e s).fw.gate = s.fw.gate := by
  unfold endCopy
  split
  · exact ⟨rfl, rfl, rfl, rfl, rfl, rfl, rfl, rfl, rfl, rfl⟩
  · unfold placeForward
    dsimp only
    split <;> exact ⟨rfl, rfl, rfl, rfl, rfl, rfl, rfl, rfl, rfl, rfl⟩

theorem describeCommitted_blocks (s : State) :
    (describeCommitted s).hw = s.hw ∧ (describeCommitted s).cu = s.cu ∧ (describeCommitted s).tlc = s.tlc ∧
      (describeCommitted s).fr = s.fr ∧ (describeCommitted s).vu = s.vu ∧ (describeCommitted s).bu = s.bu ∧
      (describeCommitted s).cmp = s.cmp ∧ (describeCommitted s).fw.gate = s.fw.gate := by
  unfold describeCommitted
  repeat' split
  · obtain ⟨h1, h2, -, -, h5, h6, h7, h8, h9, h10⟩ := endCopy_blocks (s := s) ‹_› .unsealed
    exact ⟨h1, h2, h5, h6, h7, h8, h9, h10⟩
  all_goals exact ⟨rfl, rfl, rfl, rfl, rfl, rfl, rfl, rfl⟩

/-- The blocks cleared, STOP sent, the timer stopped: what stands as the reset's stop begins. -/
def clearedForReset (s : State) : State := (sendStop (clearCommandSide (describeCommitted s))).setTimer .stopped

theorem controlResetEffect_eq (s : State) : controlResetEffect s = enterStopping (clearedForReset s) := rfl

theorem clearedForReset_tlc (s : State) : (clearedForReset s).tlc = (sendStop s).tlc :=
  sendStop_tlc_congr (describeCommitted_blocks s).2.2.1

@[simp] theorem controlResetEffect_hw (s : State) : (controlResetEffect s).hw = s.hw.atControlReset := by
  rw [controlResetEffect_eq, enterStopping_hw]
  simp only [clearedForReset, State.setTimer_hw, sendStop_hw]
  exact congrArg HostWindow.atControlReset (describeCommitted_blocks s).1

theorem BufferUnit.buffer_atControlReset (bu : BufferUnit) (b : BufferId) :
    bu.atControlReset.buffer b = { bu.buffer b with committed := false } := by
  fin_cases b <;> rfl

/-- The command side is cleared as the table of R200 has it. -/
theorem controlResetEffect_clears (s : State) : resetClears s (controlResetEffect s) := by
  obtain ⟨h1, h2, -, h4, h5, h6, h7, -⟩ := describeCommitted_blocks s
  obtain ⟨-, hcu, hvu, hbu, hcmp, hwatch, hacc, haccount, hfr, -⟩ := enterStopping_blocks (clearedForReset s)
  rw [← controlResetEffect_eq] at hcu hvu hbu hcmp hwatch hacc haccount hfr
  have hbu' : (controlResetEffect s).bu = s.bu.atControlReset := by
    rw [hbu]; simp only [clearedForReset, State.setTimer_bu, sendStop_bu]
    exact congrArg BufferUnit.atControlReset h6
  refine ⟨?_, ?_, controlResetEffect_hw s, ?_, ?_, ?_, ?_, fun b => ?_, ?_, ?_, ?_, ?_, ?_⟩
  · rw [hcu]; simp only [clearedForReset, State.setTimer_cu, sendStop_cu]
    exact congrArg (fun c : CommandUnit => { c with queue := [] }) h2
  · rw [hcmp]; simp only [clearedForReset, State.setTimer_cmp, sendStop_cmp]; rfl
  · rw [hbu']; rfl
  · rw [hbu']; rfl
  · rw [hbu']; rfl
  · rw [hbu']; rfl
  · rw [hbu']; exact s.bu.buffer_atControlReset b
  · rw [hvu]; simp only [clearedForReset, State.setTimer_vu, sendStop_vu]; rfl
  · rw [hfr]; simp only [clearedForReset, State.setTimer_fr, sendStop_fr]; rfl
  · rw [hwatch]; simp only [clearedForReset, State.setTimer_fw, sendStop_fw]; rfl
  · rw [hacc]; simp only [clearedForReset, State.setTimer_fw, sendStop_fw]; rfl
  · rw [haccount]; simp only [clearedForReset, State.setTimer_fw, sendStop_fw]; rfl

/-- The reset stops the medium of the state it meets, or of the one before the STOP that led to it. -/
theorem controlResetEffect_stops (h : r.tlc = s.tlc ∨ r.tlc = (sendStop s).tlc) : stops s (controlResetEffect r) := by
  rw [controlResetEffect_eq]
  refine stops_enterStopping ?_
  rw [clearedForReset_tlc]
  rcases h with h | h
  · exact sendStop_tlc_congr h
  · rw [sendStop_tlc_congr h, sendStop_sendStop]

theorem controlResetEffect_clears_of (hhw : r.hw = s.hw) (hcu : r.cu = s.cu) (hbu : r.bu = s.bu) :
    resetClears s (controlResetEffect r) := by
  have h := controlResetEffect_clears r
  unfold resetClears at h ⊢
  rw [hhw, hcu, hbu] at h
  exact h

/-- The reset has taken effect on `s`, where `r` has its Host Window, queue and buffers still. -/
theorem controlResetEffect_taken (hhw : r.hw = s.hw) (hcu : r.cu = s.cu) (hbu : r.bu = s.bu)
    (htlc : r.tlc = s.tlc ∨ r.tlc = (sendStop s).tlc) : resetTaken s (controlResetEffect r) :=
  ⟨controlResetEffect_clears_of hhw hcu hbu, controlResetEffect_stops htlc, controlResetEffect_timer r⟩

end Reset

/-! ### The posting (R154, R170, R185) -/

section Post
variable {s t : State} {a b : Active} {o : CmdOutcome}

/-- The place of a posted record tells which record it is. -/
theorem CompletionUnit.place_injective {c : CompletionUnit} {x y : Completion} (h : c.place x = c.place y) : x = y := by
  unfold CompletionUnit.place at h
  split at h <;> simp_all

/-- The completion of an active operation as it is placed, STALE DISCARDED from its posting with it. -/
def postedRecord (a : Active) (o : CmdOutcome) (s : State) : Completion :=
  let r := completionOf (a.withOpenRecord s.fr) o s
  if (s.bu.atPosting a.cmd s.cu.queue).2 then { r with qualifiers := { r.qualifiers with staleDiscarded := true } } else r

theorem postActive_cmp (a : Active) (o : CmdOutcome) (s : State) :
    (postActive a o s).cmp = s.cmp.place (postedRecord a o s) := rfl

/-- But for STALE DISCARDED the record posted is the operation's completion. -/
theorem postedRecord_eq (a : Active) (o : CmdOutcome) (s : State) :
    postedRecord a o s =
      { completionOf (a.withOpenRecord s.fr) o s with qualifiers := (postedRecord a o s).qualifiers } ∧
    ∃ stale, (postedRecord a o s).qualifiers =
      { (completionOf (a.withOpenRecord s.fr) o s).qualifiers with staleDiscarded := stale } := by
  unfold postedRecord
  dsimp only
  split
  · exact ⟨rfl, _, rfl⟩
  · exact ⟨rfl, _, rfl⟩

/-- A posting gives the command's completion, frees its buffer and leaves the queue. -/
theorem postActive_posted (hcmd : b.cmd = a.cmd) (hcmp : t.cmp = s.cmp) (hcu : t.cu = s.cu) :
    posted a o s (postActive b o t) := by
  obtain ⟨e, -⟩ := postedRecord_eq b o t
  refine ⟨⟨postedRecord b o t, ?_, ?_, ?_, ?_, by rw [postActive_cmp, hcmp]⟩, fun hn => ?_, hcu⟩
  · rw [e]; exact congrArg Command.tag ((Active.withOpenRecord_cmd b t.fr).trans hcmd)
  · rw [e]; exact congrArg Command.code ((Active.withOpenRecord_cmd b t.fr).trans hcmd)
  · rw [e]; exact congrArg Command.unit ((Active.withOpenRecord_cmd b t.fr).trans hcmd)
  · rw [e]; rfl
  · have hb := post_buffer t b.cmd (completionOf (b.withOpenRecord t.fr) o t) a.cmd.buffer
    refine (congrArg RecordBuffer.committed hb).trans ?_
    simp [Command.owns, hcmd, hn]

/-- The operation is posted and the medium stopped. -/
theorem conclude_stop (hcmd : b.cmd = a.cmd) (hcmp : t.cmp = s.cmp) (hcu : t.cu = s.cu) (hp : t.hw.resetPending = false)
    (htlc : t.tlc = (sendStop s).tlc) : endsInStop a o s (conclude b o .stop t) := by
  have e : conclude b o .stop t = enterStopping (postActive b o t) := by simp [conclude, hp]
  rw [e]
  obtain ⟨hr, hb, hq⟩ := postActive_posted (s := s) (o := o) hcmd hcmp hcu
  refine ⟨⟨?_, ?_, ?_⟩, stops_enterStopping htlc⟩
  · rw [enterStopping_cmp]; exact hr
  · rw [enterStopping_bu]; exact hb
  · rw [enterStopping_cu]; exact hq

/-- The operation is posted and FINISH follows. -/
theorem conclude_finish (n : Nat) (hcmd : b.cmd = a.cmd) (hrev : b.reverse = a.reverse) (hcmp : t.cmp = s.cmp) (hcu : t.cu = s.cu)
    (hp : t.hw.resetPending = false) : endsInFinish a o n s (conclude b o (.finish n) t) := by
  have e : conclude b o (.finish n) t = enterFinish b n (postActive b o t) := by simp [conclude, hp]
  rw [e]
  exact ⟨postActive_posted hcmd hcmp hcu, by simp [enterFinish, hcmd, hrev], rfl⟩

/-- The operation is posted and the OC is IDLE. -/
theorem conclude_idle (hcmd : b.cmd = a.cmd) (hcmp : t.cmp = s.cmp) (hcu : t.cu = s.cu) (hp : t.hw.resetPending = false) :
    posted a o s (conclude b o .idle t) ∧ conclude b o .idle t = enterIdle (postActive b o t) := by
  have e : conclude b o .idle t = enterIdle (postActive b o t) := by simp [conclude, hp]
  exact ⟨e ▸ postActive_posted hcmd hcmp hcu, e⟩

theorem conclude_pending {e : Ending} (hp : t.hw.resetPending = true) : conclude b o e t = controlResetEffect t := by
  simp [conclude, hp]

/-- Whatever the ending, the record placed is the operation's. -/
theorem conclude_cmp (b : Active) (o : CmdOutcome) (e : Ending) (t : State) (hp : t.hw.resetPending = false) :
    (conclude b o e t).cmp = t.cmp.place (postedRecord b o t) := by
  rcases conclude_cases t b o e with ⟨h, -⟩ | ⟨-, h⟩
  · simp [h] at hp
  · rw [h]
    cases e
    · rfl
    · simp [postActive_cmp]
    · rfl

/-- A received record still open gives its conditions to the completion, which its qualifiers show (log 39). -/
theorem carriesOpenRecord_of {x : State} (hx : x.cmp = s.cmp.place (postedRecord b o t))
    (hq : (b.withOpenRecord t.fr).qualifiers = (a.withOpenRecord s.fr).qualifiers) : carriesOpenRecord a s x := by
  intro rec hrec hgot r hr
  rw [← CompletionUnit.place_injective (hx.symm.trans hr)]
  obtain ⟨-, stale, e⟩ := postedRecord_eq b o t
  rw [e]
  simp only [completionOf, hq]
  simp [Active.withOpenRecord, hrec, hgot]

theorem Active.withOpenRecord_qualifiers {fr fr' : FrameReader} (hq : b.qualifiers = a.qualifiers) (hr : fr'.record = fr.record) :
    (b.withOpenRecord fr').qualifiers = (a.withOpenRecord fr).qualifiers := by
  unfold Active.withOpenRecord
  rw [hr]
  cases fr.record with
  | none => exact hq
  | some o =>
    dsimp only
    split
    · simp [hq]
    · exact hq

end Post

end Sys2Proof.Machine
end

section
/-! PROOF. What every row takes before anything else (R148, R199, R201), GO (R146 to R148), and the actions (Chapter 11, R187, R189). -/

namespace Sys2Proof.Machine

/-! ### How a row is taken -/

/-- A row that neither asserts RESET nor follows a line is a read, a command or a GO of the block. -/
theorem exec_taken (c : Instr) (h : takenInReset c = false) :
    (∃ f, readsWord c = true ∧ isGo c = false ∧ ∀ s, exec c s = .next (readEvent f s)) ∨
    (∃ f, readsWord c = false ∧ isGo c = false ∧ ∀ s, exec c s = .next (event f s)) ∨
    (∃ f, readsWord c = false ∧ isGo c = true ∧ ∀ s, exec c s = .next (goEvent f s)) := by
  cases c
  case registerWrite o v =>
    by_cases ho : wordOffset o = 0x0C
    · exact .inr (.inr ⟨takeRegisterWrite o v, rfl, decide_eq_true ho, fun s => congrArg Host.Outcome.next (if_pos ho)⟩)
    · exact .inr (.inl ⟨takeRegisterWrite o v, rfl, decide_eq_false ho, fun s => congrArg Host.Outcome.next (if_neg ho)⟩)
  case dackAccess access =>
    cases access
    · exact .inl ⟨_, rfl, rfl, fun _ => rfl⟩
    · exact .inr (.inl ⟨_, rfl, rfl, fun _ => rfl⟩)
  all_goals first
    | exact Bool.noConfusion (show true = false from h)
    | exact .inl ⟨_, rfl, rfl, fun _ => rfl⟩
    | exact .inr (.inl ⟨_, rfl, rfl, fun _ => rfl⟩)
    | exact .inr (.inr ⟨_, rfl, rfl, fun _ => rfl⟩)

/-- Settles O3: each row is discarded while RESET is asserted, and a read returns 0. -/
theorem assertedResetHoldsEveryBlock : Obligations.AssertedResetHoldsEveryBlock := by
  intro c s hr hc
  rcases exec_taken c hc with ⟨f, hw, -, e⟩ | ⟨f, hw, -, e⟩ | ⟨f, hw, -, e⟩ <;> rw [e, hw]
  · rw [readEvent_of_resetInput s f hr]; rfl
  · rw [event_of_resetInput s f hr]; rfl
  · rw [goEvent_of_resetInput s f hr]; rfl

theorem takeDueReset_of_due {s : State} (hp : s.hw.resetPending = true) (hpt : s.resetPoint = true) :
    takeDueReset s = controlResetEffect s := by simp [takeDueReset, hp, hpt]

theorem exec_controlResetEffect {s : State} (hr : s.hw.resetInput = false) (hp : s.hw.resetPending = true)
    (hpt : s.resetPoint = true) : exec .controlResetEffect s = .next (controlResetEffect s) := by
  refine congrArg Host.Outcome.next ?_
  simp [event, hr, takeDueReset_of_due hp hpt]

/-- Settles O4: after its effect no reset is pending, so that the command meets the state it leaves. -/
theorem dueControlResetComesFirst : Obligations.DueControlResetComesFirst := by
  intro c s hr hp hpt hc hgo
  have hun : (controlResetEffect s).undisturbed = true := State.undisturbed_iff.mpr (by simp [HostWindow.atControlReset, hr])
  refine ⟨controlResetEffect s, exec_controlResetEffect hr hp hpt, ?_⟩
  rcases exec_taken c hc with ⟨f, -, -, e⟩ | ⟨f, -, -, e⟩ | ⟨f, -, hg, -⟩
  · rw [e, e, readEvent_of_undisturbed _ f hun]
    simp [readEvent, hr, takeDueReset_of_due hp hpt]
  · rw [e, e, event_of_undisturbed _ f hun]
    simp [event, hr, takeDueReset_of_due hp hpt]
  · simp [hg] at hgo

/-! ### GO -/

section Go
variable {s : State}

theorem exec_goRow (code : Option CommandCode) (v : Word) (hr : s.hw.resetInput = false) (hc : s.hw.code = code) :
    exec (goRow code v) s = .next (takeGo code s) := by
  have e : exec (goRow code v) s = .next (goEvent (goWith code) s) := by
    cases code with
    | none => rfl
    | some c => cases c <;> rfl
  rw [e, goEvent_of_released s _ hr, goWith, if_pos hc]

theorem takeGo_of_refusal {code : Option CommandCode} {r : SubmitResult} (h : refusal s code = some r) :
    takeGo code s = s.setCu { s.cu with result := r } := by simp [takeGo, h]

theorem takeGo_of_accept {code : CommandCode} (h : refusal s (some code) = none) :
    takeGo (some code) s = accept code s := by simp [takeGo, h]

theorem CommandCode.ofNumber_eq_some {n : Nat} {c : CommandCode} : CommandCode.ofNumber n = some c ↔ n = c.number := by
  refine ⟨fun h => ?_, fun h => h ▸ CommandCode.ofNumber_number c⟩
  unfold CommandCode.ofNumber at h
  split at h <;> cases h <;> rfl

theorem CommandCode.namesBuffer_iff (c : CommandCode) : c.namesBuffer = true ↔ c = .write ∨ c = .read := by
  cases c <;> simp [CommandCode.namesBuffer]

theorem countInRange_iff (hw : HostWindow) (code : CommandCode) :
    countInRange hw code = true ↔
      ∀ low high, code.countRange = some (low, high) → low ≤ hw.count.toNat ∧ hw.count.toNat ≤ high := by
  unfold countInRange
  cases code.countRange with
  | none => simp
  | some r =>
    obtain ⟨low, high⟩ := r
    simp

/-- SUBMIT as read, over its 16 tags and 8 results. -/
theorem submitWord_fields (r : SubmitResult) : ∀ t : BitVec 4,
    (packWord [(t.toNat, 0), (r.number, 8)]).extractLsb' 0 4 = t ∧
      ((packWord [(t.toNat, 0), (r.number, 8)]).extractLsb' 8 3).toNat = r.number ∧
      packWord [(t.toNat, 0), (r.number, 8)] &&& 0xF8F0#16 = 0 := by
  cases r <;> decide

end Go

/-- Settles O12: the checks of R147 pass, and the fields of the staged command, the ranges and the SUBMIT word are as R205 and R206 lay
them out. -/
theorem acceptedGoQueuesTheStagedCommand : Obligations.AcceptedGoQueuesTheStagedCommand := by
  refine ⟨fun code v s h hc hq ht hp hcount harg hbuf => ?accepted, fun code hw => ?code, fun code tag hw => ?fields,
    fun s hr => ?submit⟩
  case accepted =>
    rw [exec_goRow _ v (State.undisturbed_released h) hc,
      takeGo_of_accept ((refusal_eq_none_iff s code).mpr ⟨hq, ht, hp, hcount, harg, hbuf⟩)]
    cases code <;> rfl
  case code =>
    refine CommandCode.ofNumber_eq_some.trans ?_
    cases code <;> rfl
  case fields =>
    have hbit : hw.buffer.val = (hw.mode.getLsbD 3).toNat := extractLsb'_one_toNat hw.mode 3
    refine ⟨by cases code <;> rfl, hbit.trans ?_, code.namesBuffer_iff, (countInRange_iff hw code).trans ?_, ?_⟩
    · cases hw.mode.getLsbD 3 <;> rfl
    · cases code <;> simp [CommandCode.countRange, Config.recordBytes]
    · cases code <;> simp [argInRange]
  case submit =>
    rw [readWord_submit hr]
    obtain ⟨htag, hresult, hzero⟩ := submitWord_fields s.cu.result s.cu.lastTag
    refine ⟨htag, hresult.trans ?_, hzero⟩
    cases s.cu.result <;> rfl

/-- Settles O13: the checks of R147 in their order. -/
theorem refusedGoGivesTheFirstReason : Obligations.RefusedGoGivesTheFirstReason := by
  intro code v s hr hc full refusedWith
  have refused {r : SubmitResult} (h : refusal s code = some r) : refusedWith r :=
    (exec_goRow code v hr hc).trans (congrArg Host.Outcome.next (takeGo_of_refusal h))
  have hfull : (Config.queueSize ≤ s.cu.queue.length ∨ s.tagCarried s.cu.tagCounter = true) ↔ full := Iff.rfl
  refine ⟨fun hf => refused ?_, fun hf hp => refused ?_, fun hf hp hn => refused ?_, fun k hk hf hp => ?_⟩
  · rw [refusal.eq_def, if_pos (hfull.mpr hf)]
  · rw [refusal.eq_def, if_neg (mt hfull.mp hf), hp]; rfl
  · rw [refusal.eq_def, if_neg (mt hfull.mp hf), hp, hn]; rfl
  · have e : refusal s code =
        if countInRange s.hw k = false then some .badCount
        else if argInRange s.hw k = false then some .badArgument
        else if k.namesBuffer && (s.bu.buffer s.hw.buffer).committed then some .bufferBusy else none := by
      rw [refusal.eq_def, if_neg (mt hfull.mp hf), hp, hk]; rfl
    refine ⟨fun h1 => refused ?_, fun h1 h2 => refused ?_, fun h1 h2 h3 h4 => refused ?_⟩ <;> rw [e]
    · simp [h1]
    · simp [h1, h2]
    · simp [h1, h2, h3, h4]

/-! ### ABORT (R194 to R197) -/

section Abort
variable {s : State} {a : Active}

theorem exec_abort (h : s.undisturbed = true) : exec .abort s = .next (takeAbort s) :=
  congrArg Host.Outcome.next (event_of_undisturbed s _ h)

theorem VerifyUnit.skipNotice_eq (v : VerifyUnit) :
    v.skipNotice =
      if v.state = .listening then
        { v with
          state := .idle, window := [], blankNotice := false,
          reported := (match v.copyFailure with | some k => some k | none => v.reported) }
      else v := by
  obtain ⟨state, window, copyFailure, trailerFailure, soft, blankNotice, reported, corrected, marginal, skew⟩ := v
  cases state <;> rfl

end Abort

/-- Settles O14, by the phase in force. -/
theorem abortIsAnsweredByPhase : Obligations.AbortIsAnsweredByPhase := by
  intro s h
  rw [exec_abort h]
  refine ⟨fun hn => ?none, fun a hoc => ⟨fun hm => ?marked, fun hm => ?unmarked⟩, VerifyUnit.skipNotice_eq⟩
  case none =>
    have := State.active_eq_none.mp hn
    unfold takeAbort
    split
    · exact absurd ‹_› (this _)
    · rfl
  case marked => simp [takeAbort, hoc, hm]
  case unmarked =>
    refine ⟨fun hph => ?record, fun hph => ?copy, fun hph => ?commit, fun hp => ?headerData⟩
    case record =>
      have e : takeAbort s = abortInRecord a s := by
        rcases hph with hp | ⟨hp | hp, hrec⟩
        · simp [takeAbort, hoc, hm, hp]
        · simp [takeAbort, hoc, hm, hp, hrec]
        · simp [takeAbort, hoc, hm, hp, hrec]
      rw [e]; rfl
    case copy =>
      have e : takeAbort s = s.setOc (.active { a with abortMark := true }) := by
        rcases hph with hp | hp | hp | hp <;> simp [takeAbort, hoc, hm, hp]
      rw [e]; rfl
    case commit =>
      have e : takeAbort s = s.setOc (.active { a with abortMark := true, abortLate := true }) := by
        rcases hph with hp | hp <;> simp [takeAbort, hoc, hm, hp]
      rw [e]; rfl
    case headerData =>
      have e : takeAbort s = cutRun { a with abortMark := true } .abort 0 s := by simp [takeAbort, hoc, hm, hp]
      rw [e]; rfl

/-- An ABORT answered by stopping at once posts ABORTED and stops the medium (R195). -/
theorem abortAtOnce_ends {a : Active} {s : State} (hp : s.hw.resetPending = false) :
    endsInStop a .aborted s (abortAtOnce a s) ∧
      ((abortAtOnce a s).oc = .stopping → (abortAtOnce a s).fw = s.fw ∧ (abortAtOnce a s).rc = s.rc) ∧
      carriesOpenRecord a s (abortAtOnce a s) ∧
      ∀ r, (abortAtOnce a s).cmp = s.cmp.place r → (a.cmd.code = .read ∨ a.cmd.code = .readStream) →
        r.byteCount = a.bytes ∧ r.ordinal = a.ordinal ∧ r.passed = a.passed := by
  have hp' : (sendStop s).hw.resetPending = false := by rw [sendStop_hw, hp]
  have hcmp := conclude_cmp { a with abortMark := true } .aborted .stop (sendStop s) hp'
  rw [sendStop_cmp] at hcmp
  refine ⟨conclude_stop rfl (sendStop_cmp s) (sendStop_cu s) hp' rfl, fun hst => ?_, carriesOpenRecord_of hcmp
    (Active.withOpenRecord_qualifiers rfl (by rw [sendStop_fr])),
    fun r hr hcode => ?_⟩
  · have e : abortAtOnce a s = enterStopping (postActive { a with abortMark := true } .aborted (sendStop s)) := by
      simp [abortAtOnce, conclude, hp]
    rw [e] at hst ⊢
    rw [(enterStopping_blocks _).2.2.2.2.2.2.2.2.2.2.2 hst]
    exact ⟨sendStop_fw s, sendStop_rc s⟩
  · rw [← CompletionUnit.place_injective (hcmp.symm.trans hr), (postedRecord_eq _ _ _).1]
    rcases Active.withOpenRecord_cases { a with abortMark := true } (sendStop s).fr with e | ⟨_, -, -, e⟩ <;> rw [e] <;>
      rcases hcode with hc | hc <;>
      simp [completionOf, hc, CommandCode.receives, CommandCode.readClass, CommandCode.writesCopies]

/-- Settles O15: at each of these phases no reset is pending, and ABORT ends the operation there. -/
theorem abortBeforeTheWorkStopsAtOnce : Obligations.AbortBeforeTheWorkStopsAtOnce := by
  intro a s h hoc hm
  rw [exec_abort h]
  refine ⟨fun hph => ?stop, fun hph => ?finish⟩
  case stop =>
    have hpend : s.hw.resetPending = false := by
      refine State.notPending_of_point h ?_
      rcases hph with hp | hp | hp | hp | hp | hp | ⟨hp | hp, hrec⟩ <;> simp [State.resetPoint, *]
    refine ⟨abortAtOnce a s, ?_, abortAtOnce_ends hpend⟩
    rcases hph with hp | hp | hp | hp | hp | hp | ⟨hp | hp, hrec⟩ <;> simp [takeAbort, *]
  case finish =>
    have hpend : s.hw.resetPending = false := by
      refine State.notPending_of_point h ?_
      rcases hph with hp | hp <;> simp [State.resetPoint, hoc, hp]
    refine ⟨conclude { a with abortMark := true } .aborted shortFinish s, ?_, conclude_finish 16 rfl rfl rfl rfl hpend, ?_⟩
    · rcases hph with hp | hp <;> simp [takeAbort, hoc, hm, hp]
    · rw [conclude, hpend]
      exact ⟨rfl, rfl, rfl⟩

/-! ### FLUSH, CONTROL RESET, POP, CLEAR ATTENTION -/

/-- Settles O16, by what FLUSH leaves of the Buffer Unit. -/
theorem flushDiscardsTheQueue : Obligations.FlushDiscardsTheQueue := by
  intro s h
  obtain ⟨hb, hst, hd, hsel, hdma⟩ := s.bu.atFlush_cases s.cu.queue (s.activeIs .writeStream)
  refine ⟨takeFlush s, congrArg Host.Outcome.next (event_of_undisturbed s _ h), rfl, fun c hc hn => ?named, fun b => ?kept,
    fun hs => ?emptied, fun hs => ?stays, hsel, hdma⟩
  case named =>
    have hany : s.cu.queue.any (·.owns c.buffer) = true := List.any_eq_true.mpr ⟨c, hc, by simp [Command.owns, hn]⟩
    exact (congrArg RecordBuffer.committed (hb c.buffer)).trans (by simp [hany])
  case kept =>
    change ((s.bu.atFlush _ _).buffer b).contents = _ ∧ ((s.bu.atFlush _ _).buffer b).pointer = _ ∧
      ((s.bu.atFlush _ _).buffer b).fill = _ ∧ (_ → ((s.bu.atFlush _ _).buffer b).committed = _)
    rw [hb b]
    refine ⟨rfl, rfl, rfl, fun hnone => ?_⟩
    have hany : s.cu.queue.any (·.owns b) = false := by
      simp only [List.any_eq_false, Command.owns, Bool.and_eq_true, decide_eq_true_eq]
      exact fun c hc ⟨hn, he⟩ => hnone c hc hn he
    simp [hany]
  case emptied => exact hst.trans (if_pos hs)
  case stays =>
    refine ⟨hst.trans (if_neg fun hf => ?_), hd⟩
    rcases hs with hs | hs <;> simp [hs] at hf

/-- Settles O17: the points of R199, phase by phase. -/
theorem controlResetIsHeldPending : Obligations.ControlResetIsHeldPending := by
  refine ⟨fun s h => congrArg Host.Outcome.next (event_of_undisturbed s _ h), fun s => ⟨fun hn => ?_, 
    fun a hoc => ⟨?_, ?_, ?_⟩⟩⟩
  · unfold State.resetPoint
    cases hoc : s.oc with
    | active a => exact absurd hoc (hn a)
    | idle => rfl
    | finishing f => rfl
    | stopping => rfl
  · rintro (hp | hp | hp | hp | ⟨k, hp⟩ | hp) <;> simp [State.resetPoint, hoc, hp]
  · rintro (hp | hp) <;> simp [State.resetPoint, hoc, hp]
  · rintro (hp | hp | hp | hp | hp | hp | hp | hp | hp | hp) <;> simp [State.resetPoint, hoc, hp]

section Copy
variable {s : State} {a : Active} {x : CopyAccount}

/-- A copy as it is described at its end is the record of R77. -/
theorem describeCopy_eq (a : Active) (x : CopyAccount) (e : CopyEnding) :
    describeCopy { x with ended := e } a.verdict = writtenRecord a x (reportedTrailer e) := by
  unfold describeCopy writtenRecord writtenCondition
  rfl

theorem placeForward_rc_congr {r : State} (hrc : r.rc = s.rc) (hsel : r.tlc.selected = s.tlc.selected) (u : UnitId) (i : RecordInfo)
    (p : Bool) : (placeForward u i p r).rc = (placeForward u i p s).rc := by
  unfold placeForward State.setNextOrdinal State.setCatalogue State.catalogue State.nextOrdinal
  rw [hsel]
  split <;> simp [hrc]

/-- The end of the copy in the account: its description to the catalogue, its ending to the account (R78, R134). -/
theorem endCopy_of_account (h : s.fw.account = some x) (e : CopyEnding) :
    (endCopy a e s).rc = (placeForward a.cmd.unit (writtenRecord a x (reportedTrailer e)) x.passed s).rc ∧
      (endCopy a e s).fw = { s.fw with account := some { x with ended := e } } := by
  unfold endCopy
  rw [h]
  dsimp only
  rw [describeCopy_eq]
  refine ⟨placeForward_rc_congr (s := s) (r := s.setAccount { x with ended := e }) rfl rfl _ _ _, ?_⟩
  obtain ⟨-, -, -, -, -, hfw, -⟩ := placeForward_same (s.setAccount { x with ended := e }) a.cmd.unit
    (writtenRecord a x (reportedTrailer e)) x.passed
  exact hfw

theorem copyInProgress_iff : s.copyInProgress = true ↔ ∃ x, s.fw.account = some x ∧ x.ended = .inProgress := by
  unfold State.copyInProgress
  cases s.fw.account <;> simp

end Copy

/-- What the effect leaves of the catalogue, where its stop is not one that ends a run. -/
theorem controlResetEffect_rc {s : State} (h : (controlResetEffect s).oc = .stopping ∨ s.fr.run = none) :
    (controlResetEffect s).rc = (describeCommitted s).rc := by
  have hc : (clearedForReset s).rc = (describeCommitted s).rc := sendStop_rc _
  rw [controlResetEffect_eq] at h ⊢
  obtain ⟨-, -, -, -, -, -, -, -, -, hrc, -, hstop⟩ := enterStopping_blocks (clearedForReset s)
  rcases h with h | h
  · rw [hstop h]; exact hc
  · refine (hrc (.inl ?_)).trans hc
    have hfr := (describeCommitted_blocks s).2.2.2.1
    simp [clearedForReset, clearCommandSide, FrameReader.afterPosting, hfr, h]

/-- Settles O18, from what the effect of a control reset leaves of every block. -/
theorem controlResetTakesEffectInOneStep : Obligations.ControlResetTakesEffectInOneStep := by
  intro s hr hp hpt
  refine ⟨controlResetEffect s, exec_controlResetEffect hr hp hpt, controlResetEffect_taken rfl rfl rfl (.inl rfl), fun hst => ?gate,
    fun hrun => ?catalogue, fun u => ?links⟩
  case gate =>
    rw [controlResetEffect_eq] at hst ⊢
    obtain ⟨-, -, -, -, -, -, -, -, -, -, -, hstop⟩ := enterStopping_blocks (clearedForReset s)
    rw [hstop hst]
    have hfw : (clearedForReset s).fw = (clearCommandSide (describeCommitted s)).fw := sendStop_fw _
    exact (congrArg FrameWriter.gate hfw).trans (describeCommitted_blocks s).2.2.2.2.2.2.2
  case catalogue =>
    rw [controlResetEffect_rc hrun]
    refine ⟨fun a x hoc hph hx hin => ?_, fun hno => ?_⟩
    · have e : describeCommitted s = endCopy a .unsealed s := by
        simp [describeCommitted, hoc, hph, copyInProgress_iff.mpr ⟨x, hx, hin⟩]
      rw [e]
      exact (endCopy_of_account hx .unsealed).1
    · have e : describeCommitted s = s := by
        unfold describeCommitted
        split
        · rename_i a hoc
          refine if_neg fun ⟨hph, hin⟩ => ?_
          obtain ⟨x, hx, hend⟩ := copyInProgress_iff.mp hin
          exact hno ⟨a, x, hoc, hph, hx, hend⟩
        · rfl
      rw [e]
  case links =>
    obtain ⟨-, -, -, -, -, -, -, -, -, -, hlink, -⟩ := enterStopping_blocks (clearedForReset s)
    rw [controlResetEffect_eq, hlink u]
    have e : (clearedForReset s).link u = (sendStop s).link u := by simp only [State.link, clearedForReset_tlc]
    rw [e]
    exact sendStop_frame u

/-- Settles O19: the place and POP, and the two orders on a full ring. -/
theorem popTakesTheOldestCompletion : Obligations.PopTakesTheOldestCompletion := by
  refine ⟨fun r rest s h hring => ?_, fun s h hring => ?_, fun c r => ⟨fun hl => ?_, fun hl => ?_⟩, fun c r hl hheld => ?_⟩
  · refine congrArg Host.Outcome.next ((event_of_undisturbed s _ h).trans ?_)
    simp [takePop, CompletionUnit.pop, hring, State.setCmp]
  · refine congrArg Host.Outcome.next ((event_of_undisturbed s _ h).trans ?_)
    simp [takePop, CompletionUnit.pop, hring, State.setCmp]
  · exact if_pos hl
  · exact if_neg (Nat.not_lt.mpr hl)
  · obtain ⟨ring, held⟩ := c
    cases ring with
    | nil => simp at hl
    | cons x rest =>
      simp only at hheld hl
      have hrest : rest.length < 8 := by simp at hl; omega
      subst hheld
      simp [CompletionUnit.place, CompletionUnit.pop, hrest, hl, Config.ringSize]

/-- Settles O20. -/
theorem clearAttentionClearsOneUnit : Obligations.ClearAttentionClearsOneUnit := fun u s h =>
  congrArg Host.Outcome.next (event_of_undisturbed s (clearCauses u) h)

end Sys2Proof.Machine
end

section
/-! PROOF. The RESET input (R42, R201), the status lines and what they bring about where no operation ends (Chapter 2), and the commands
that need no medium (R151). -/

namespace Sys2Proof.Machine

/-! ### The RESET input -/

/-- Settles O34: field by field. -/
theorem resetInputReturnsEveryBlock : Obligations.ResetInputReturnsEveryBlock := by
  intro s
  refine ⟨⟨hardwareReset s, rfl, rfl, rfl, rfl, rfl, rfl, rfl, rfl, fun u => ?catalogue, rfl, rfl, rfl, fun b => ?buffer, rfl, rfl,
    rfl, rfl, rfl, rfl, rfl, rfl, rfl, fun hs => if_pos hs, rfl, rfl, fun u => PerUnit.get_map _ _ u⟩,
    fun hr => ?release, fun l => ?state⟩
  case catalogue => fin_cases u <;> exact ⟨rfl, rfl⟩
  case buffer => fin_cases b <;> rfl
  case release =>
    refine ⟨resetRelease s, rfl, by rw [resetRelease, if_pos hr]; rfl, fun u => ?_⟩
    rw [resetRelease, if_pos hr]
    exact PerUnit.get_map _ _ u
  case state =>
    refine ⟨fun h => ?_, fun h1 h2 => ?_, fun h1 h2 h3 => ?_, fun h1 h2 h3 => ?_⟩ <;> simp [Lines.unitState, *]

/-! ### A line's change -/

section Line
variable {s : State} {u : UnitId} {k : Line} {b : Bool} {f : State → State}

@[simp] theorem State.setLink_setLink (s : State) (u : UnitId) (l m : UnitLink) : (s.setLink u l).setLink u m = s.setLink u m := by
  simp only [State.setLink, State.setTlc_tlc, PerUnit.set_set]
  rfl

theorem State.setLink_link (s : State) (u : UnitId) : s.setLink u (s.link u) = s := by
  simp only [State.setLink, State.link, PerUnit.set_get]
  rfl

theorem State.link_setLine (s : State) (u : UnitId) (k : Line) (b : Bool) :
    (s.setLine u k b).link u = { s.link u with lines := (s.link u).lines.set k b } := State.link_setLink s u _

/-- A change of a line on a unit that is present with it. -/
theorem lineEvent_of_present (h : s.undisturbed = true) (hl : (s.link u).lines.get k = !b)
    (hp : ((s.link u).lines.set k b).present = true) : lineEvent u k b (ifPresent u f) s = f (s.setLine u k b) := by
  rw [lineEvent_of_undisturbed s u k b _ h (by rw [hl]; cases b <;> decide), ifPresent, State.link_setLine, if_pos hp]

theorem lineEvent_of_change (h : s.undisturbed = true) (hl : (s.link u).lines.get k = !b) :
    lineEvent u k b f s = f (s.setLine u k b) :=
  lineEvent_of_undisturbed s u k b _ h (by rw [hl]; cases b <;> decide)

end Line

/-- Settles O44: a change that no other row names follows the line, at its level or not. -/
theorem liveLinesFollowWithNoOtherEffect : Obligations.LiveLinesFollowWithNoOtherEffect := by
  intro u s h followed
  have follows (k : Line) (b : Bool) : lineEvent u k b id s = s.setLine u k b := by
    by_cases hl : (s.link u).lines.get k = b
    · have e : (s.link u).lines.set k b = (s.link u).lines := by cases k <;> cases hl <;> rfl
      rw [lineEvent, if_pos hl, State.setLine, e]
      exact (s.setLink_link u).symm
    · exact lineEvent_of_undisturbed s u k b id h hl
  exact ⟨congrArg _ (follows .loadPoint false), congrArg _ (follows .endMarker false), congrArg _ (follows .endLine false),
    congrArg _ (follows .moving true)⟩

/-! ### PRESENT and READY (R24, R38) -/

section Ready
variable {s : State} {u : UnitId}

variable {l : UnitLink}

theorem enterReady_of_rewinding (h : l.lines.rewinding = true) :
    enterReady u (s.setLink u l) = s.setLink u { l with state := .rewinding } := by
  simp [enterReady, State.setUnitState, h]

/-- A unit that becomes ready is IDLE with BECAME READY and its catalogue anchored, empty (R135). -/
theorem enterReady_of_not_rewinding (h : l.lines.rewinding = false) :
    enterReady u (s.setLink u l) =
      (s.setLink u { l with state := .idle, causes := l.causes.raise .becameReady }).setCatalogue u .anchoredEmpty := by
  simp [enterReady, State.setUnitState, raiseCause, h]

theorem reactReadyRise_of_notReady (h : l.state = .notReady) :
    reactReadyRise u (s.setLink u l) = enterReady u (s.setLink u l) := by simp [reactReadyRise, h]

theorem reactPresentRise_of_ready (h : l.lines.ready = true) :
    reactPresentRise u (s.setLink u l) = enterReady u (s.setLink u l) := by simp [reactPresentRise, h]

theorem reactPresentRise_of_not_ready (h : l.lines.ready = false) :
    reactPresentRise u (s.setLink u l) = s.setLink u { l with state := .notReady } := by
  simp [reactPresentRise, State.setUnitState, h]

/-- A unit lost with no operation on it: its new state, the cause its old one gives, and the catalogue UNKNOWN (R24, R38). -/
theorem loseUnit_of_cause (st : UnitState) {k : Cause} (hk : l.state.lossCause = some k) (hs : s.tlc.selected ≠ some u) :
    loseUnit u st (s.setLink u l) =
      (s.setLink u { l with state := st, causes := l.causes.raise k }).setCatalogue u .unknown := by
  have hcause : k = .lostReady ∨ k = .unloaded := by
    unfold UnitState.lossCause at hk
    split at hk <;> simp_all
  simp only [loseUnit, State.link_setLink, State.setUnitState, State.setLink_setLink, hk]
  rcases hcause with rfl | rfl <;>
    simp only [raiseCause, invalidate, State.link_setLink, State.setLink_setLink] <;> exact if_neg hs

theorem loseUnit_of_no_cause (st : UnitState) (hk : l.state.lossCause = none) (hs : s.tlc.selected ≠ some u) :
    loseUnit u st (s.setLink u l) = s.setLink u { l with state := st } := by
  simp only [loseUnit, State.link_setLink, State.setUnitState, State.setLink_setLink, hk]
  exact if_neg hs

theorem reactReadyFall_of_cause {k : Cause} (hk : l.state.lossCause = some k) :
    reactReadyFall u (s.setLink u l) = loseUnit u .notReady (s.setLink u l) := by
  unfold reactReadyFall
  rw [State.link_setLink]
  cases hst : l.state <;> simp_all [UnitState.lossCause]

/-- Settles O35: the lines as they stand after the change decide the unit's state, its cause and its catalogue. -/
theorem presentAndReadyMoveAUnit : Obligations.PresentAndReadyMoveAUnit := by
  intro u s h l c moved anchored unknown
  let changed (k : Line) (b : Bool) : UnitLink := { s.link u with lines := l.set k b }
  have hready (hr : l.ready = false) (hp : l.present = true) :
      exec (.readyRise u) s = .next (reactReadyRise u (s.setLink u (changed .ready true))) :=
    congrArg _ (lineEvent_of_present (k := .ready) (b := true) h hr hp)
  have hpresent (hp : l.present = false) :
      exec (.presentRise u) s = .next (reactPresentRise u (s.setLink u (changed .present true))) :=
    congrArg _ (lineEvent_of_change (k := .present) (b := true) h hp)
  have hreadyFall (hr : l.ready = true) (hp : l.present = true) :
      exec (.readyFall u) s = .next (reactReadyFall u (s.setLink u (changed .ready false))) :=
    congrArg _ (lineEvent_of_present (k := .ready) (b := false) h hr hp)
  have hpresentFall (hp : l.present = true) :
      exec (.presentFall u) s = .next (loseUnit u .absent (s.setLink u (changed .present false))) :=
    congrArg _ (lineEvent_of_change (k := .present) (b := false) h hp)
  have hlost (hst : (s.link u).state = .idle ∨ (s.link u).state = .rewinding) :
      (s.link u).state.lossCause = some .lostReady := by rcases hst with hst | hst <;> rw [hst] <;> rfl
  have hunloaded (hst : (s.link u).state = .unloading) : (s.link u).state.lossCause = some .unloaded := by rw [hst]; rfl
  refine ⟨fun hr hp hst hw => ?_, fun hr hp hst hw => ?_, fun hp hr hw => ?_, fun hp hr hw => ?_, fun hp hr => ?_,
    fun hr hp hs => ⟨fun hst => ?_, fun hst => ?_⟩, fun hp hs => ⟨fun hst => ?_, fun hst => ?_, fun hst => ?_⟩⟩
  · rw [hready hr hp, reactReadyRise_of_notReady (l := changed .ready true) hst,
      enterReady_of_not_rewinding (l := changed .ready true) hw]; rfl
  · rw [hready hr hp, reactReadyRise_of_notReady (l := changed .ready true) hst,
      enterReady_of_rewinding (l := changed .ready true) hw]; rfl
  · rw [hpresent hp, reactPresentRise_of_ready (l := changed .present true) hr,
      enterReady_of_not_rewinding (l := changed .present true) hw]; rfl
  · rw [hpresent hp, reactPresentRise_of_ready (l := changed .present true) hr,
      enterReady_of_rewinding (l := changed .present true) hw]; rfl
  · rw [hpresent hp, reactPresentRise_of_not_ready (l := changed .present true) hr]; rfl
  · rw [hreadyFall hr hp, reactReadyFall_of_cause (l := changed .ready false) (hlost hst),
      loseUnit_of_cause (l := changed .ready false) _ (hlost hst) hs]; rfl
  · rw [hreadyFall hr hp, reactReadyFall_of_cause (l := changed .ready false) (hunloaded hst),
      loseUnit_of_cause (l := changed .ready false) _ (hunloaded hst) hs]; rfl
  · rw [hpresentFall hp, loseUnit_of_cause (l := changed .present false) _ (hlost hst) hs]; rfl
  · rw [hpresentFall hp, loseUnit_of_cause (l := changed .present false) _ (hunloaded hst) hs]; rfl
  · rw [hpresentFall hp, loseUnit_of_no_cause (l := changed .present false) _
      (show (s.link u).state.lossCause = none by rw [hst]; rfl) hs]; rfl

end Ready

/-! ### WRITE PERMIT, REWINDING, AT SPEED, END MARKER (R25, R29, R31 to R33, R39) -/

section Levels
variable {s : State} {u : UnitId}

/-- PERMIT CHANGED on a ready unit, and nothing on one not ready (R39). -/
theorem raisePermitChanged (l : UnitLink) :
    (if ((s.setLink u l).link u).lines.ready = true then raiseCause .permitChanged u (s.setLink u l) else s.setLink u l) =
      s.setLink u { l with causes := { l.causes with permitChanged := l.causes.permitChanged || l.lines.ready } } := by
  rw [State.link_setLink]
  cases hr : l.lines.ready
  · rw [if_neg (by simp), Bool.or_false]
  · rw [if_pos rfl, Bool.or_true]
    simp only [raiseCause, State.link_setLink, State.setLink_setLink]
    rfl

/-- Settles O39: with the gate OFF, or on another unit, or as the permit rises, the cause is all that follows. -/
theorem permitChangeRaisesItsCause : Obligations.PermitChangeRaisesItsCause := by
  intro u level s h hp hw hno
  refine congrArg Host.Outcome.next ((lineEvent_of_present (k := .writePermit) (b := level) h hw hp).trans ?_)
  have hraise := raisePermitChanged (s := s) (u := u) { s.link u with lines := (s.link u).lines.set .writePermit level }
  unfold reactPermit
  dsimp only
  rw [State.setLine, hraise]
  refine if_neg fun ⟨hl, hs, hgate⟩ => ?_
  rcases hno with hno | hno | hno
  · simp [hl] at hno
  · exact hno hs
  · exact Bool.false_ne_true (hno.symm.trans hgate)

/-- A REWIND or UNLOAD that awaits acceptance (R31). -/
theorem reactRewindingRise_of_accepted {a : Active} {st : UnitState} (hst : (s.link u).state = .ramping) (hoc : s.oc = .active a)
    (hacc : acceptedState s.tlc.request = some st) :
    reactRewindingRise u s = conclude a .done .idle (invalidate u (releaseUnit (s.setUnitState u st))) := by
  simp only [reactRewindingRise, hst, hacc, acceptRequest]
  rw [show (invalidate u (releaseUnit (s.setUnitState u st))).oc = .active a from hoc]

/-- What the accepted request leaves (R31, R55). -/
theorem accepted_ends {a : Active} {x : State} {st : UnitState} (hcmp : x.cmp = s.cmp) (hcu : x.cu = s.cu)
    (hrc : x.rc.nextOrdinals = s.rc.nextOrdinals) (hx : x.tlc.selected = none)
    (hpend : x.hw.resetPending = false) (htimer : x.tlc.acceptanceTimer = false) (hst : (x.link u).state = st)
    (hcat : x.catalogue u = .unknown) :
    posted a .done s (conclude a .done .idle x) ∧ (conclude a .done .idle x).oc = .idle ∧
      (conclude a .done .idle x).tlc.selected = none ∧ (conclude a .done .idle x).tlc.acceptanceTimer = false ∧
      ((conclude a .done .idle x).link u).state = st ∧ (conclude a .done .idle x).catalogue u = .unknown ∧
      (conclude a .done .idle x).rc.nextOrdinals = s.rc.nextOrdinals := by
  obtain ⟨hposted, e⟩ := conclude_idle (a := a) (b := a) (o := .done) rfl hcmp hcu hpend
  refine ⟨hposted, ?_⟩
  rw [e]
  exact ⟨rfl, hx, htimer, hst, hcat, hrc⟩

/-- Settles O40: the accepted request is posted DONE with the selection released. -/
theorem rewindingRiseAcceptsTheRequest : Obligations.RewindingRiseAcceptsTheRequest := by
  intro u a s h hpend hoc hp hw hst hreq
  obtain ⟨st, hacc, hstate⟩ : ∃ st, acceptedState s.tlc.request = some st ∧
      st = if s.tlc.request = some .rewind then .rewinding else .unloading := by
    rcases hreq with hreq | hreq <;> rw [hreq] <;> exact ⟨_, rfl, rfl⟩
  refine ⟨_, congrArg Host.Outcome.next ((lineEvent_of_present (k := .rewinding) (b := true) h hw hp).trans
    (reactRewindingRise_of_accepted (a := a) (st := st) (by rw [State.link_setLine]; exact hst) hoc hacc)), ?_⟩
  rw [← hstate]
  have hlink : ((invalidate u (releaseUnit ((s.setLine u .rewinding true).setUnitState u st))).link u).state = st :=
    congrArg UnitLink.state (State.link_setLink (s.setLine u .rewinding true) u _)
  have hcat := State.catalogue_setCatalogue (releaseUnit ((s.setLine u .rewinding true).setUnitState u st)) u .unknown
  exact accepted_ends rfl rfl rfl rfl hpend rfl hlink hcat

/-- Settles O41. -/
theorem rewindingFallEndsTheRewind : Obligations.RewindingFallEndsTheRewind := by
  intro u s h hp hw hr hst ended
  have hrow : exec (.rewindingFall u) s = .next (reactRewindingFall u (s.setLine u .rewinding false)) :=
    congrArg _ (lineEvent_of_present (k := .rewinding) (b := false) h hw hp)
  have hidle : reactRewindingFall u (s.setLine u .rewinding false) =
      if (s.link u).lines.loadPoint = true then raiseCause .rewound u ((s.setLine u .rewinding false).setUnitState u .idle)
      else (s.setLine u .rewinding false).setUnitState u .idle := by
    unfold reactRewindingFall
    rw [State.link_setLine]
    rcases hst with hst | hst <;> simp [hst, hr, Lines.set, State.setUnitState, State.setLine]
  refine ⟨fun hl => ?_, fun hl => ?_⟩ <;> rw [hrow, hidle]
  · rw [if_pos hl]
    simp only [State.setUnitState, State.setLine, raiseCause, State.link_setLink, State.setLink_setLink]
    rfl
  · rw [if_neg (by simp [hl])]
    simp only [State.setUnitState, State.setLine, State.link_setLink, State.setLink_setLink]
    rfl

/-- AT SPEED on the ramping selected unit: it runs, and the OC hears of it (R25). -/
theorem exec_atSpeedRise {st : UnitState} (h : s.undisturbed = true) (hs : s.tlc.selected = some u)
    (hp : (s.link u).lines.present = true) (hl : (s.link u).lines.atSpeed = false) (hst : (s.link u).state = .ramping)
    (hreq : runningState s.tlc.request = some st) :
    exec (.atSpeedRise u) s = .next
      (atSpeedReport
        (s.setTlc
          { s.tlc with
            units :=
              s.tlc.units.set u { s.link u with lines := { (s.link u).lines with atSpeed := true }, state := st }
            atSpeedTimer := false })) := by
  refine congrArg Host.Outcome.next ((lineEvent_of_present (k := .atSpeed) (b := true) h hl hp).trans ?_)
  unfold reactAtSpeedRise
  rw [if_pos ⟨hs, by rw [State.link_setLine]; exact hst⟩, show (s.setLine u .atSpeed true).tlc.request = s.tlc.request from rfl, hreq]
  simp only [State.setUnitState, State.setLine, State.link_setLink, State.setLink_setLink]
  rfl

/-- Settles O42, by the class of the command and the phase. -/
theorem atSpeedEndsTheRamp : Obligations.AtSpeedEndsTheRamp := by
  intro u a s h hoc hs hp hl hst running enters
  have row (st : UnitState) (hreq : runningState s.tlc.request = some st) :
      exec (.atSpeedRise u) s = .next (atSpeedReport (s.setTlc (running st))) := exec_atSpeedRise h hs hp hl hst hreq
  have report (st : UnitState) (hph : a.phase = .ramp) :
      atSpeedReport (s.setTlc (running st)) =
        leaveRamp a (if a.cmd.code.readClass then startSearch (s.setTlc (running st)) else s.setTlc (running st)) := by
    unfold atSpeedReport
    rw [State.setTlc_oc, hoc]
    simp only [hph]
  refine ⟨fun hph hreq => ?write, fun hph hread hrec => ?read, fun hph hrec hreq => ?turn⟩
  case write =>
    have hrun : runningState s.tlc.request = some .runningForward := by rw [hreq]; rfl
    have leave (hw : a.cmd.code.readClass = false) {x : State} (hx : leaveRamp a (s.setTlc (running .runningForward)) = x) :
        exec (.atSpeedRise u) s = .next x := by rw [row _ hrun, report _ hph, hw, if_neg (by simp), hx]
    have hcopies (hc : a.cmd.code.writesCopies = true) : a.cmd.code.readClass = false := by
      cases hcode : a.cmd.code <;> simp_all [CommandCode.writesCopies, CommandCode.readClass]
    have hgap (hc : a.cmd.code = .eraseGap) : ¬ a.cmd.code.writesCopies = true := by rw [hc]; decide
    refine ⟨fun hc hlp => leave (hcopies hc) ?_, fun hc hlp => leave (hcopies hc) ?_, fun hc hlp => leave (by rw [hc]; rfl) ?_,
      fun hc hlp => leave (by rw [hc]; rfl) ?_⟩
    · exact (if_pos hc).trans (if_pos hlp)
    · exact (if_pos hc).trans (if_neg (by simp [hlp]))
    · exact ((if_neg (hgap hc)).trans (if_pos hc)).trans (if_pos hlp)
    · exact ((if_neg (hgap hc)).trans (if_pos hc)).trans (if_neg (by simp [hlp]))
  case read =>
    have hnot : a.cmd.code.writesCopies = false ∧ a.cmd.code ≠ .eraseGap := by
      cases hcode : a.cmd.code <;> simp_all [CommandCode.writesCopies, CommandCode.readClass]
    have leave (st : UnitState) (hrun : runningState s.tlc.request = some st) :
        enters st .search none { s.fr with search := some 0 } := by
      refine (row _ hrun).trans (congrArg Host.Outcome.next ?_)
      rw [report _ hph, hread, if_pos rfl]
      simp only [leaveRamp, hnot.1, hnot.2, if_false, startSearch, State.setFr_fr, State.setTlc_fr, hrec, Option.isSome_none]
      rfl
    exact ⟨fun hreq => leave _ (by rw [hreq]; rfl), fun hreq => leave _ (by rw [hreq]; rfl)⟩
  case turn =>
    refine (row .runningReverse (by rw [hreq]; rfl)).trans (congrArg Host.Outcome.next ?_)
    unfold atSpeedReport
    rw [State.setTlc_oc, hoc]
    simp only [hph, startSearch, State.setTlc_fr, hrec, Option.isSome_none]
    rfl

theorem State.movesForward_setLine (s : State) (u : UnitId) (k : Line) (b : Bool) :
    (s.setLine u k b).movesForward u = s.movesForward u := by
  unfold State.movesForward State.travelsForward
  rw [State.link_setLine]
  rfl

/-- Settles O38: the warning first, then the search. -/
theorem endMarkerWarnsAndEndsASearch : Obligations.EndMarkerWarnsAndEndsASearch := by
  intro u a s h hpend hoc hs hp hl hm tlc' warned
  let x := s.setLine u .endMarker true
  have row : exec (.endMarkerRise u) s =
      .next (if a.plan = some .search then searchMarker warned x else x.setOc (.active warned)) := by
    refine congrArg Host.Outcome.next ((lineEvent_of_present (k := .endMarker) (b := true) h hl hp).trans ?_)
    unfold reactEndMarkerRise
    rw [if_pos ⟨hs, (s.movesForward_setLine u _ _).trans hm⟩, show (s.setLine u .endMarker true).oc = .active a from hoc]
  have search (hph : a.phase = .search ∨ a.phase = .record) :
      searchMarker warned x =
        if s.fr.record.isSome then x.setOc (.active { warned with endRisen := true })
        else conclude warned .notFound shortFinish x := by
    unfold searchMarker
    rcases hph with hph | hph <;> simp only [warned, hph] <;> rfl
  refine ⟨fun hplan => ?_, fun hplan hph hrec => ?_, fun hplan hph hrec => ?_⟩
  · rw [row, if_neg hplan]; rfl
  · rw [row, if_pos hplan, search hph, if_pos hrec]; rfl
  · refine ⟨conclude warned .notFound shortFinish x, ?_, conclude_finish 16 rfl rfl rfl rfl hpend, ?_, fun r hr => ?_⟩
    · rw [row, if_pos hplan, search hph, if_neg (by simp [hrec])]
    · rw [conclude, show x.hw.resetPending = false from hpend]; rfl
    · rw [← CompletionUnit.place_injective ((conclude_cmp warned .notFound shortFinish x hpend).symm.trans hr)]
      obtain ⟨-, stale, e⟩ := postedRecord_eq warned .notFound x
      rw [e, Active.withOpenRecord_none warned x.fr hrec]
      rfl

end Levels

/-! ### The commands that need no medium (R36, R138, R151) -/

/-- Settles O58: the head leaves the queue, its work is done and DONE is placed. -/
theorem nonMediumCommandsAreCarriedOut : Obligations.NonMediumCommandsAreCarriedOut := by
  intro c rest s h hpend hq hact hheld done
  have row (hm : c.code.medium = false) :
      exec .nonMediumCommandExecution s = .next
        (post c { Completion.bare c .done with ordinal := if c.code = .setOrdinal then some c.arg else none }
          (nonMediumWork c (s.setCu { s.cu with queue := rest }))) := by
    refine congrArg Host.Outcome.next ((event_of_undisturbed s _ h).trans ?_)
    unfold takeNonMedium
    rw [hq]
    split
    · rename_i a hoc
      exact absurd hoc (State.active_eq_none.mp hact a)
    · rename_i e _
      cases e
      simp only [hm, hheld, hpend]
      rfl
    · rename_i e _
      cases e
  have hbu (x : State) (hn : c.code = .setOrdinal ∨ c.code = .loadProfile) (q : List Command) :
      x.bu.atPosting c q = (x.bu, false) := by
    rcases hn with hn | hn <;> simp [BufferUnit.atPosting, BufferUnit.releaseFor, hn, CommandCode.namesBuffer]
  refine ⟨fun hc => ?_, fun hc => ?_⟩
  · rw [row (by rw [hc]; rfl)]
    simp only [nonMediumWork, hc, post, hbu _ (.inl hc)]
    simp [done, Completion.bare, hc]
    rfl
  · rw [row (by rw [hc]; rfl)]
    simp only [nonMediumWork, hc, post, hbu _ (.inr hc)]
    simp [done, Completion.bare, hc]
    rfl

end Sys2Proof.Machine
end

section
/-! PROOF. The plan of a LOCATE reaches the nearest candidate (R139, R140). -/

namespace Sys2Proof.Machine

/-- The number of records from the position to entry `i`, on either side. -/
def distanceFrom (position i : Nat) : Nat := if position ≤ i then i - position else position - i

/-- Entry `i` is the nearest that `p` holds of, the one ahead when two are equally near. -/
def Nearest (p : Nat → Prop) (position i : Nat) : Prop :=
  p i ∧ ∀ j, p j → distanceFrom position i < distanceFrom position j ∨
    (distanceFrom position i = distanceFrom position j ∧ j ≤ i)

/-- The plan that reaches entry `i`. -/
def planTo (position i : Nat) : Plan :=
  if i = position then .zero else if position < i then .space (i - position) false else .space (position - i) true

theorem Nearest.unique {p : Nat → Prop} {position i j : Nat} (hi : Nearest p position i) (hj : Nearest p position j) : i = j := by
  have h1 := hi.2 j hj.1
  have h2 := hj.2 i hi.1
  omega

theorem planAhead_eq (position n : Nat) : planAhead n = planTo position (position + n) := by
  unfold planAhead planTo
  cases n <;> simp

theorem planTo_behind {position b : Nat} (h : b < position) : planTo position (position - 1 - b) = .space (b + 1) true := by
  unfold planTo
  rw [if_neg (by omega), if_neg (by omega)]
  congr 1
  omega

/-- Entry `i` is a candidate of the tier (R139). -/
def Catalogue.candidateAt (c : Catalogue) (target : Word) (k : Trailer) (i : Nat) : Prop :=
  ∃ e, c.entries[i]? = some e ∧ e.candidate target k = true

theorem Catalogue.candidateAt_iff (c : Catalogue) (target : Word) (k : Trailer) (i : Nat) :
    c.candidateAt target k i ↔
      ∃ e x, c.entries[i]? = some e ∧ e.ident = some x ∧ x.ordinal = target ∧ e.trailer = k := by
  refine exists_congr fun e => ?_
  cases he : e.ident <;> simp [RecordInfo.candidate, he]

section Plan
variable (c : Catalogue) (target : Word) (k : Trailer)

/-- The search ahead of the position. -/
theorem Catalogue.ahead_eq_some {a : Nat}
    (h : (c.entries.drop c.position).findIdx? (RecordInfo.candidate · target k) = some a) :
    c.candidateAt target k (c.position + a) ∧ ∀ j, c.position ≤ j → j < c.position + a → ¬ c.candidateAt target k j := by
  obtain ⟨hlt, hp, hn⟩ := List.findIdx?_eq_some_iff_getElem.mp h
  rw [List.getElem_drop] at hp
  refine ⟨⟨_, List.getElem?_eq_getElem _, hp⟩, fun j hj hja ⟨e, he, hc⟩ => ?_⟩
  have := hn (j - c.position) (by omega)
  rw [List.getElem_drop] at this
  obtain ⟨_, he'⟩ := List.getElem?_eq_some_iff.mp he
  have hidx : c.position + (j - c.position) = j := by omega
  simp only [hidx, he'] at this
  exact this hc

theorem Catalogue.ahead_eq_none (h : (c.entries.drop c.position).findIdx? (RecordInfo.candidate · target k) = none) {j : Nat}
    (hj : c.position ≤ j) : ¬ c.candidateAt target k j := by
  rintro ⟨e, he, hc⟩
  have hmem : e ∈ c.entries.drop c.position := by
    refine List.mem_of_getElem? (i := j - c.position) ?_
    rw [List.getElem?_drop, show c.position + (j - c.position) = j by omega]
    exact he
  simpa [hc] using List.findIdx?_eq_none_iff.mp h e hmem

/-- An entry behind the position, counted back from it. -/
theorem Catalogue.getElem?_behind {b : Nat} (hpos : c.position ≤ c.entries.length) (hb : b < c.position) :
    (c.entries.take c.position).reverse[b]? = c.entries[c.position - 1 - b]? := by
  have hlen : (c.entries.take c.position).length = c.position := by simp [hpos]
  rw [List.getElem?_reverse (by omega), hlen, List.getElem?_take, if_pos (by omega)]

theorem Catalogue.behind_eq_some (hpos : c.position ≤ c.entries.length) {b : Nat}
    (h : ((c.entries.take c.position).reverse).findIdx? (RecordInfo.candidate · target k) = some b) :
    b < c.position ∧ c.candidateAt target k (c.position - 1 - b) ∧
      ∀ j, c.position - 1 - b < j → j < c.position → ¬ c.candidateAt target k j := by
  obtain ⟨hlt, hp, hn⟩ := List.findIdx?_eq_some_iff_getElem.mp h
  have hb : b < c.position := by simp at hlt; omega
  refine ⟨hb, ⟨_, ((c.getElem?_behind hpos hb).symm.trans (List.getElem?_eq_getElem hlt)), hp⟩, fun j hj hjp ⟨e, he, hc⟩ => ?_⟩
  have hback := c.getElem?_behind hpos (b := c.position - 1 - j) (by omega)
  rw [show c.position - 1 - (c.position - 1 - j) = j by omega, he] at hback
  obtain ⟨hl, he'⟩ := List.getElem?_eq_some_iff.mp hback
  have := hn (c.position - 1 - j) (by omega)
  rw [he'] at this
  exact this hc

theorem Catalogue.behind_eq_none (hpos : c.position ≤ c.entries.length)
    (h : ((c.entries.take c.position).reverse).findIdx? (RecordInfo.candidate · target k) = none) {j : Nat}
    (hj : j < c.position) : ¬ c.candidateAt target k j := by
  rintro ⟨e, he, hc⟩
  have hback := c.getElem?_behind hpos (b := c.position - 1 - j) (by omega)
  rw [show c.position - 1 - (c.position - 1 - j) = j by omega, he] at hback
  simpa [hc] using List.findIdx?_eq_none_iff.mp h e (List.mem_of_getElem? hback)

/-- The plan within a tier reaches its nearest candidate, and there is none exactly when it has no candidate (R140). -/
theorem Catalogue.planIn_cases (hpos : c.position ≤ c.entries.length) :
    (∃ i, Nearest (c.candidateAt target k) c.position i ∧ c.planIn target k = some (planTo c.position i)) ∨
    ((∀ i, ¬ c.candidateAt target k i) ∧ c.planIn target k = none) := by
  unfold Catalogue.planIn
  dsimp only
  cases ha : (c.entries.drop c.position).findIdx? (RecordInfo.candidate · target k) with
  | none =>
    have hno := fun j => c.ahead_eq_none target k ha (j := j)
    cases hb : ((c.entries.take c.position).reverse).findIdx? (RecordInfo.candidate · target k) with
    | none =>
      refine .inr ⟨fun i => ?_, rfl⟩
      rcases Nat.lt_or_ge i c.position with hi | hi
      · exact c.behind_eq_none target k hpos hb hi
      · exact hno i hi
    | some b =>
      obtain ⟨hlt, hc, hn⟩ := c.behind_eq_some target k hpos hb
      refine .inl ⟨c.position - 1 - b, ⟨hc, fun j hj => ?_⟩, by rw [planTo_behind hlt]⟩
      have h1 := mt (hno j) (not_not_intro hj)
      have h2 : ¬ (c.position - 1 - b < j ∧ j < c.position) := fun h => hn j h.1 h.2 hj
      unfold distanceFrom
      repeat' split
      all_goals omega
  | some a =>
    obtain ⟨hca, hna⟩ := c.ahead_eq_some target k ha
    cases hb : ((c.entries.take c.position).reverse).findIdx? (RecordInfo.candidate · target k) with
    | none =>
      refine .inl ⟨c.position + a, ⟨hca, fun j hj => ?_⟩, congrArg some (planAhead_eq c.position a)⟩
      have h1 : ¬ (c.position ≤ j ∧ j < c.position + a) := fun h => hna j h.1 h.2 hj
      have h2 : ¬ j < c.position := fun h => c.behind_eq_none target k hpos hb h hj
      unfold distanceFrom
      repeat' split
      all_goals omega
    | some b =>
      obtain ⟨hlt, hcb, hnb⟩ := c.behind_eq_some target k hpos hb
      have hahead : ∀ j, c.candidateAt target k j → ¬ (c.position ≤ j ∧ j < c.position + a) := fun j hj h => hna j h.1 h.2 hj
      have hbehind : ∀ j, c.candidateAt target k j → ¬ (c.position - 1 - b < j ∧ j < c.position) :=
        fun j hj h => hnb j h.1 h.2 hj
      dsimp only
      by_cases hab : a ≤ b + 1
      · refine .inl ⟨c.position + a, ⟨hca, fun j hj => ?_⟩, by rw [if_pos hab, planAhead_eq c.position a]⟩
        have h1 := hahead j hj
        have h2 := hbehind j hj
        unfold distanceFrom
        repeat' split
        all_goals omega
      · refine .inl ⟨c.position - 1 - b, ⟨hcb, fun j hj => ?_⟩, by rw [if_neg hab, planTo_behind hlt]⟩
        have h1 := hahead j hj
        have h2 := hbehind j hj
        unfold distanceFrom
        repeat' split
        all_goals omega

/-- The entries among which the plan chooses: those with trailer commit, and where there is none those with trailer none (R139). -/
def Catalogue.eligible (i : Nat) : Prop :=
  c.candidateAt target .commit i ∨ ((∀ j, ¬ c.candidateAt target .commit j) ∧ c.candidateAt target .none i)

/-- The plan reaches the nearest of these, and is a search exactly when there is none. -/
theorem Catalogue.plan_cases (hpos : c.position ≤ c.entries.length) :
    (∃ i, Nearest (c.eligible target) c.position i ∧ c.plan target = planTo c.position i) ∨
    ((∀ i, ¬ c.eligible target i) ∧ c.plan target = .search) := by
  unfold Catalogue.plan
  rcases c.planIn_cases target .commit hpos with ⟨i, ⟨hi, hnear⟩, e⟩ | ⟨hno, e⟩ <;> rw [e]
  · refine .inl ⟨i, ⟨.inl hi, fun j hj => hnear j ?_⟩, rfl⟩
    exact hj.resolve_right fun ⟨hnone, _⟩ => hnone i hi
  · have hel : ∀ i, c.eligible target i ↔ c.candidateAt target .none i := fun i =>
      ⟨fun h => (h.resolve_left (hno i)).2, fun h => .inr ⟨hno, h⟩⟩
    rcases c.planIn_cases target .none hpos with ⟨i, ⟨hi, hnear⟩, e'⟩ | ⟨hno', e'⟩ <;> rw [e']
    · exact .inl ⟨i, ⟨(hel i).mpr hi, fun j hj => hnear j ((hel j).mp hj)⟩, rfl⟩
    · exact .inr ⟨fun i hi => hno' i ((hel i).mp hi), rfl⟩

end Plan

theorem planTo_ne_search (position i : Nat) : planTo position i ≠ .search := by
  unfold planTo
  split
  · nofun
  · split <;> nofun

/-- Settles O60: the plan is the one to the nearest candidate, which is one alone. -/
theorem locatePlansReachACandidate : Obligations.LocatePlansReachACandidate := by
  intro c target hpos tier candidate distance chosen
  have htier : ∀ k i, tier k i ↔ c.candidateAt target k i := fun k i => (c.candidateAt_iff target k i).symm
  have hcandidate : ∀ i, candidate i ↔ c.eligible target i := fun i =>
    or_congr (htier _ i) (and_congr (forall_congr' fun j => not_congr (htier _ j)) (htier _ i))
  have hchosen : ∀ i, chosen i ↔ Nearest (c.eligible target) c.position i := fun i =>
    and_congr (hcandidate i) (forall_congr' fun j => imp_congr (hcandidate j) Iff.rfl)
  rcases c.plan_cases target hpos with ⟨i, hnear, e⟩ | ⟨hno, e⟩
  · have hi := (hchosen i).mpr hnear
    rw [e]
    refine ⟨fun h => ?_, fun n h => ?_, fun n h => ?_, fun j hj => ?_, fun h => absurd h (planTo_ne_search _ _), fun h => ?_⟩
    · unfold planTo at h
      split at h
      · exact ‹i = c.position› ▸ hi
      · split at h <;> cases h
    · unfold planTo at h
      split at h
      · cases h
      · split at h
        · cases h
          exact ⟨by omega, by rwa [show c.position + (i - c.position) = i by omega]⟩
        · cases h
    · unfold planTo at h
      split at h
      · cases h
      · split at h
        · cases h
        · cases h
          exact ⟨by omega, by omega, by rwa [show c.position - (c.position - i) = i by omega]⟩
    · rw [((hchosen j).mp hj).unique hnear]; rfl
    · exact absurd ((hcandidate i).mpr hnear.1) (h i)
  · have hnone : ∀ i, ¬ candidate i := fun i hi => hno i ((hcandidate i).mp hi)
    rw [e]
    exact ⟨nofun, nofun, nofun, fun i hi => absurd hi.1 (hnone i), fun _ => hnone, fun _ => rfl⟩

end Sys2Proof.Machine
end

section
/-! PROOF. The loss of the selected unit (R24, R34, R58 to R60). -/

namespace Sys2Proof.Machine

/-! ### The write gate (R65, R78) -/

section Gate
variable {s : State}

/-- The gate's drop touches the Frame Writer and the Verify Unit alone (R65). -/
theorem dropGate_blocks (s : State) :
    (dropGate s).hw = s.hw ∧ (dropGate s).cu = s.cu ∧ (dropGate s).oc = s.oc ∧ (dropGate s).timer = s.timer ∧
      (dropGate s).tlc = s.tlc ∧ (dropGate s).fr = s.fr ∧ (dropGate s).rc = s.rc ∧ (dropGate s).bu = s.bu ∧
      (dropGate s).cmp = s.cmp ∧ (dropGate s).fw.gate = false := by
  unfold dropGate
  cases hg : s.fw.gate
  · exact ⟨rfl, rfl, rfl, rfl, rfl, rfl, rfl, rfl, rfl, hg⟩
  · rw [if_pos rfl]
    dsimp only
    split
    · split <;> exact ⟨rfl, rfl, rfl, rfl, rfl, rfl, rfl, rfl, rfl, rfl⟩
    · exact ⟨rfl, rfl, rfl, rfl, rfl, rfl, rfl, rfl, rfl, rfl⟩

theorem dropGate_of_off (h : s.fw.gate = false) : dropGate s = s := by simp [dropGate, h]

theorem dropGateAndReport_of_off (h : s.fw.gate = false) : dropGateAndReport s = s := by
  unfold dropGateAndReport
  rw [dropGate_of_off h, h]
  dsimp only
  split
  · exact if_neg (by simp)
  · rfl

/-- The drop with its report touches the catalogue too. -/
theorem dropGateAndReport_blocks (s : State) :
    (dropGateAndReport s).hw = s.hw ∧ (dropGateAndReport s).cu = s.cu ∧ (dropGateAndReport s).oc = s.oc ∧
      (dropGateAndReport s).timer = s.timer ∧ (dropGateAndReport s).tlc = s.tlc ∧ (dropGateAndReport s).fr = s.fr ∧
      (dropGateAndReport s).bu = s.bu ∧ (dropGateAndReport s).cmp = s.cmp ∧ (dropGateAndReport s).fw.gate = false := by
  obtain ⟨h1, h2, h3, h4, h5, h6, -, h8, h9, hg⟩ := dropGate_blocks s
  unfold dropGateAndReport
  dsimp only
  split
  · split
    · obtain ⟨k1, k2, k3, k4, k5, k6, -, k8, k9, k10⟩ := endCopy_blocks (s := dropGate s) ‹_› .unsealed
      exact ⟨k1.trans h1, k2.trans h2, k3.trans h3, k4.trans h4, k5.trans h5, k6.trans h6, k8.trans h8, k9.trans h9, k10.trans hg⟩
    · exact ⟨h1, h2, h3, h4, h5, h6, h8, h9, hg⟩
  · exact ⟨h1, h2, h3, h4, h5, h6, h8, h9, hg⟩

end Gate

/-! ### The loss -/

section Loss
variable {s x : State} {u : UnitId} {next : UnitState} {causes : Causes}

/-- The unit is lost, and the operation that ran on it has not heard of it yet: nothing but the unit, its causes and its catalogue has
changed. -/
structure LostUnit (s x : State) (u : UnitId) (next : UnitState) (causes : Causes) : Prop where
  hw : x.hw = s.hw
  cu : x.cu = s.cu
  oc : x.oc = s.oc
  fr : x.fr = s.fr
  bu : x.bu = s.bu
  cmp : x.cmp = s.cmp
  state : (x.link u).state = next
  causes : (x.link u).causes = causes
  catalogue : x.catalogue u = .unknown
  ordinals : x.rc.nextOrdinals = s.rc.nextOrdinals

/-- The unit is released, the reader abandoned and the OC IDLE. -/
structure Released (s t : State) (u : UnitId) (next : UnitState) (causes : Causes) : Prop where
  oc : t.oc = .idle
  timer : t.timer = .stopped
  selected : t.tlc.selected = none
  gate : t.fw.gate = false
  mode : t.fr.mode = .idle
  record : t.fr.record = none
  run : t.fr.run = none
  state : (t.link u).state = next
  causes : (t.link u).causes = causes
  catalogue : t.catalogue u = .unknown
  ordinals : t.rc.nextOrdinals = s.rc.nextOrdinals

/-- The release of a lost unit: the gate dropped, the parse abandoned, nothing selected. -/
def abandon (s : State) : State := (releaseUnit (dropGate s)).setFr ((dropGate s).fr.leave .idle)

theorem lossOfUnit_eq (x : State) :
    lossOfUnit x =
      match x.oc with
      | .active a => conclude (a.withOpenRecord x.fr) .transportFault .idle (abandon x)
      | .idle => abandon x
      | _ => enterIdle (abandon x) := by
  have hoc : (abandon x).oc = x.oc := (dropGate_blocks x).2.2.1
  unfold lossOfUnit
  dsimp only
  rewrite [show ((releaseUnit (dropGate x)).setFr ((releaseUnit (dropGate x)).fr.leave .idle)) = abandon x from rfl, hoc]
  rfl

theorem abandon_blocks (x : State) :
    (abandon x).hw = x.hw ∧ (abandon x).cu = x.cu ∧ (abandon x).bu = x.bu ∧ (abandon x).cmp = x.cmp ∧
      (abandon x).rc = x.rc ∧ (∀ u, (abandon x).link u = x.link u) := by
  obtain ⟨h1, h2, -, -, h5, -, h7, h8, h9, -⟩ := dropGate_blocks x
  exact ⟨h1, h2, h8, h9, h7, fun u => show (dropGate x).tlc.units.get u = _ by rw [h5]; rfl⟩

/-- Once the unit is released the OC has only to be IDLE. -/
theorem LostUnit.released (h : LostUnit s x u next causes) {t : State} (hsel : t.tlc.selected = none) (hlink : t.link u = x.link u)
    (hrc : t.rc = x.rc) (hoc : t.oc = .idle) (htimer : t.timer = .stopped) (hgate : t.fw.gate = false) (hmode : t.fr.mode = .idle)
    (hrecord : t.fr.record = none) (hrun : t.fr.run = none) : Released s t u next causes where
  oc := hoc
  timer := htimer
  selected := hsel
  gate := hgate
  mode := hmode
  record := hrecord
  run := hrun
  state := by rw [hlink, h.state]
  causes := by rw [hlink, h.causes]
  catalogue := by rw [State.catalogue, hrc]; exact h.catalogue
  ordinals := by rw [hrc, h.ordinals]

/-- With nothing selected no report of a copy reaches the catalogue (R137). -/
theorem describeCommitted_rc_of_unselected (h : s.tlc.selected = none) : (describeCommitted s).rc = s.rc := by
  have hp : ∀ v r p y, y.tlc.selected = none → placeForward v r p y = y := fun v r p y hy => if_neg (by rw [hy]; nofun)
  unfold describeCommitted
  split
  · split
    · unfold endCopy
      split
      · rfl
      · dsimp only
        rw [hp _ _ _ (s.setAccount _) h]
        rfl
    · rfl
  · rfl

/-- A control reset that meets nothing selected is over at once. -/
theorem controlResetEffect_unselected (h : s.tlc.selected = none) (hrun : s.fr.run = none) :
    controlResetEffect s = stopDone (((clearedForReset s).setOc .stopping).setTimer .stopped) ∧
      (controlResetEffect s).rc = s.rc ∧ (controlResetEffect s).oc = .idle ∧
      (∀ u, (controlResetEffect s).link u = s.link u) := by
  have htlc : (clearedForReset s).tlc = s.tlc := by rw [clearedForReset_tlc, sendStop_of_unselected h]
  have hstop : (clearedForReset s).stopRunning = false := by simp [State.stopRunning, htlc, h]
  rw [controlResetEffect_eq]
  rcases enterStopping_cases (clearedForReset s) with ⟨hr, -⟩ | ⟨-, e⟩
  · simp [hstop] at hr
  · have hrc := controlResetEffect_rc (s := s) (.inr hrun)
    rw [controlResetEffect_eq] at hrc
    obtain ⟨-, -, -, -, -, -, -, -, -, -, hlink, -⟩ := enterStopping_blocks (clearedForReset s)
    refine ⟨e, hrc.trans (describeCommitted_rc_of_unselected h), by rw [e]; rfl, fun u => ?_⟩
    rw [hlink, State.link, htlc]; rfl

/-- The loss ends an active operation TRANSPORT FAULT, or in the effect of a pending reset, and FINISH and STOPPING with nothing more
posted. -/
theorem LostUnit.ends (h : LostUnit s x u next causes) :
    (∀ a, s.oc = .active a → s.hw.resetPending = false →
      posted a .transportFault s (lossOfUnit x) ∧ carriesOpenRecord a s (lossOfUnit x) ∧ Released s (lossOfUnit x) u next causes) ∧
    (∀ a, s.oc = .active a → s.hw.resetPending = true →
      resetClears s (lossOfUnit x) ∧ Released s (lossOfUnit x) u next causes) ∧
    (((∃ f, s.oc = .finishing f) ∨ s.oc = .stopping) →
      (lossOfUnit x).cmp = s.cmp ∧ (lossOfUnit x).cu = s.cu ∧ (lossOfUnit x).bu = s.bu ∧
        Released s (lossOfUnit x) u next causes) := by
  obtain ⟨hhw, hcu, hbu, hcmp, hrc, hlink⟩ := abandon_blocks x
  have hgate : (abandon x).fw.gate = false := rfl
  refine ⟨fun a hoc hp => ?active, fun a hoc hp => ?reset, fun hoc => ?rest⟩
  case active =>
    have hpend : (abandon x).hw.resetPending = false := by rw [hhw, h.hw, hp]
    have e : lossOfUnit x = conclude (a.withOpenRecord x.fr) .transportFault .idle (abandon x) := by
      rw [lossOfUnit_eq, h.oc, hoc]
    obtain ⟨hposted, e'⟩ := conclude_idle (s := s) (a := a) (b := a.withOpenRecord x.fr) (o := .transportFault)
      (Active.withOpenRecord_cmd a x.fr) (hcmp.trans h.cmp) (hcu.trans h.cu) hpend
    rw [e]
    refine ⟨hposted, carriesOpenRecord_of (b := a.withOpenRecord x.fr) (o := .transportFault) (t := abandon x) ?_ ?_, ?_⟩
    · rw [conclude_cmp _ _ _ _ hpend, hcmp, h.cmp]
    · rw [Active.withOpenRecord_none (a.withOpenRecord x.fr) (abandon x).fr rfl]
      exact Active.withOpenRecord_qualifiers rfl (by rw [h.fr])
    · rw [e']
      exact h.released rfl (hlink u) hrc rfl rfl rfl rfl rfl rfl
  case reset =>
    have hpend : (abandon x).hw.resetPending = true := by rw [hhw, h.hw, hp]
    have e : lossOfUnit x = controlResetEffect (abandon x) := by
      rw [lossOfUnit_eq, h.oc, hoc]; exact conclude_pending hpend
    obtain ⟨e', hrc', hidle, hl⟩ := controlResetEffect_unselected (s := abandon x) rfl rfl
    rw [e]
    refine ⟨controlResetEffect_clears_of (hhw.trans h.hw) (hcu.trans h.cu) (hbu.trans h.bu),
      h.released ?_ ((hl u).trans (hlink u)) (hrc'.trans hrc) hidle (controlResetEffect_timer _) ?_ ?_ ?_ ?_⟩ <;> rw [e'] <;> rfl
  case rest =>
    have e : lossOfUnit x = enterIdle (abandon x) := by
      rw [lossOfUnit_eq, h.oc]
      rcases hoc with ⟨f, hoc⟩ | hoc <;> rw [hoc]
    rw [e]
    exact ⟨hcmp.trans h.cmp, hcu.trans h.cu, hbu.trans h.bu, h.released rfl (hlink u) hrc rfl rfl rfl rfl rfl rfl⟩

/-- A unit in its new state, its catalogue UNKNOWN, is lost. -/
theorem lostUnit_setLink (u : UnitId) (l : UnitLink) :
    LostUnit s ((s.setLink u l).setCatalogue u .unknown) u l.state l.causes where
  hw := rfl
  cu := rfl
  oc := rfl
  fr := rfl
  bu := rfl
  cmp := rfl
  state := congrArg UnitLink.state (State.link_setLink s u l)
  causes := congrArg UnitLink.causes (State.link_setLink s u l)
  catalogue := State.catalogue_setCatalogue (s.setLink u l) u _
  ordinals := rfl

/-- A loss of the selected unit by PRESENT or READY. -/
theorem loseUnit_of_selected {l : UnitLink} (hs : s.tlc.selected = some u) (hk : l.state.lossCause = some .lostReady) (next : UnitState) :
    loseUnit u next (s.setLink u l) =
      lossOfUnit ((s.setLink u { l with state := next, causes := { l.causes with lostReady := true } }).setCatalogue u .unknown) := by
  simp only [loseUnit, State.link_setLink, hk, State.setUnitState, State.setLink_setLink, raiseCause, invalidate]
  exact if_pos hs

/-- A rewind that the transport begins on its own. -/
theorem unrequestedRewind_of_selected {l : UnitLink} (hs : s.tlc.selected = some u) :
    unrequestedRewind u (s.setLink u l) =
      lossOfUnit ((s.setLink u { l with state := .rewinding }).setCatalogue u .unknown) := by
  simp only [unrequestedRewind, State.link_setLink, State.setUnitState, State.setLink_setLink, invalidate]
  exact if_pos hs

theorem reactRewindingRise_of_unrequested {l : UnitLink} (hl : (s.link u) = l)
    (hst : l.state = .idle ∨ l.state = .runningForward ∨ l.state = .runningReverse ∨ l.state = .stopping ∨
      (l.state = .ramping ∧ acceptedState s.tlc.request = none)) :
    reactRewindingRise u s = unrequestedRewind u s := by
  unfold reactRewindingRise
  rw [hl]
  rcases hst with h | h | h | h | ⟨h, hr⟩ <;> simp only [h]
  simp only [hr]

end Loss

/-- Settles O36: each row loses the unit, and the loss ends the operation. -/
theorem lossOfTheSelectedUnitEndsTheOperation : Obligations.LossOfTheSelectedUnitEndsTheOperation := by
  intro u s h hs hp st raised lost
  have ends (i : Instr) (l : UnitLink) (hrow : exec i s = .next (lossOfUnit ((s.setLink u l).setCatalogue u .unknown))) :
      lost i l.state l.causes := by
    obtain ⟨hactive, hreset, hrest⟩ := (lostUnit_setLink (s := s) u l).ends
    have hreleased {t : State} (r : Released s t u l.state l.causes) :
        t.oc = .idle ∧ t.timer = .stopped ∧ t.tlc.selected = none ∧ t.fw.gate = false ∧ t.fr.mode = .idle ∧
          t.fr.record = none ∧ t.fr.run = none ∧ (t.link u).state = l.state ∧ (t.link u).causes = l.causes ∧
          t.catalogue u = .unknown ∧ t.rc.nextOrdinals = s.rc.nextOrdinals :=
      ⟨r.oc, r.timer, r.selected, r.gate, r.mode, r.record, r.run, r.state, r.causes, r.catalogue, r.ordinals⟩
    refine ⟨fun a hoc hpend => ?_, fun a hoc hpend => ?_, fun hoc => ?_⟩
    · obtain ⟨h1, h2, h3⟩ := hactive a hoc hpend
      exact ⟨_, hrow, h1, h2, hreleased h3⟩
    · obtain ⟨h1, h2⟩ := hreset a hoc hpend
      exact ⟨_, hrow, h1, hreleased h2⟩
    · obtain ⟨h1, h2, h3, h4⟩ := hrest hoc
      exact ⟨_, hrow, h1, h2, h3, hreleased h4⟩
  let changed (k : Line) (b : Bool) : UnitLink := { s.link u with lines := (s.link u).lines.set k b }
  refine ⟨fun hst => ?fall, fun hst hw => ?rewind⟩
  case fall =>
    have hk : st.lossCause = some .lostReady := by rcases hst with e | e | e | e | e <;> rw [e] <;> rfl
    refine ⟨?_, fun hr => ?_⟩
    · refine ends (.presentFall u) { changed .present false with state := .absent, causes := raised } (congrArg Host.Outcome.next ?_)
      exact (lineEvent_of_change (k := .present) (b := false) h hp).trans
        (loseUnit_of_selected (l := changed .present false) hs hk .absent)
    · refine ends (.readyFall u) { changed .ready false with state := .notReady, causes := raised } (congrArg Host.Outcome.next ?_)
      refine (lineEvent_of_present (k := .ready) (b := false) h hr hp).trans ?_
      exact (reactReadyFall_of_cause (l := changed .ready false) hk).trans
        (loseUnit_of_selected (l := changed .ready false) hs hk .notReady)
  case rewind =>
    refine ends (.rewindingRise u) { changed .rewinding true with state := .rewinding } (congrArg Host.Outcome.next ?_)
    refine (lineEvent_of_present (k := .rewinding) (b := true) h hw hp).trans ?_
    refine (reactRewindingRise_of_unrequested (l := changed .rewinding true) (s.link_setLine u _ _) ?_).trans
      (unrequestedRewind_of_selected (l := changed .rewinding true) hs)
    refine hst.imp_right (Or.imp_right (Or.imp_right (Or.imp_right fun ⟨e, hreq⟩ => ⟨e, ?_⟩)))
    change acceptedState s.tlc.request = none
    rcases hreq with e | e | e <;> rw [e] <;> rfl

end Sys2Proof.Machine
end

section
/-! PROOF. What a close gives the catalogue and the command, and what the reader does at an event of R95 (R87, R93 to R97, R154, R184). -/

namespace Sys2Proof.Machine

/-! ### A close (R93, R94) -/

section Close
variable {s t : State} {a b : Active} {o : OpenRecord} {h : Header} {k : Trailer}

/-- The report of a close for the OC (R93). -/
def closeReportOf (s : State) (o : OpenRecord) (h : Header) (k : Trailer) : CloseReport :=
  { ident := h.ident, kind := h.kind, trailer := k, received := o.received, dataCheck := s.badRecord h,
    lengthExcess := o.lengthExcess, overrun := o.overrun, long := h.long }

theorem closeCondition_eq (s : State) (h : Header) (k : Trailer) :
    closeCondition s.fr.manner s.fr.acc h = ((s.readRecord h k).condition, s.badRecord h) := by
  unfold closeCondition State.readRecord State.badRecord
  cases s.fr.manner
  case pass => rfl
  case check =>
    generalize hb : (decide (s.fr.acc ≠ 0) || h.unreadable || h.bad || h.malformed) = bad
    cases bad <;> cases h.soft <;> simp

/-- The catalogue's part of a close. -/
def placeClosed (rev : Bool) (r : RecordInfo) (s : State) : State :=
  match s.tlc.selected with
  | some u => if rev then placeReverse u r s else placeForward u r false s
  | none => s

theorem placeForward_fr (u : UnitId) (r : RecordInfo) (p : Bool) (s : State) : (placeForward u r p s).fr = s.fr := by
  unfold placeForward; split <;> rfl

theorem placeReverse_fr (u : UnitId) (r : RecordInfo) (s : State) : (placeReverse u r s).fr = s.fr := by
  unfold placeReverse; split <;> rfl

theorem placeClosed_same (rev : Bool) (r : RecordInfo) (s : State) :
    SameButReader s (placeClosed rev r s) ∧ (placeClosed rev r s).fr = s.fr := by
  unfold placeClosed
  cases s.tlc.selected with
  | none => exact ⟨SameButReader.refl s, rfl⟩
  | some u =>
    cases rev
    · exact ⟨placeForward_same s u r false, placeForward_fr u r false s⟩
    · exact ⟨placeReverse_same s u r, placeReverse_fr u r s⟩

/-- A record that closes is placed, the parse returns to no record open, and the report is made. -/
theorem closeRecord_eq (o : OpenRecord) (h : Header) (k : Trailer) (rev : Bool) (s : State) :
    closeRecord o h k rev s =
      ((placeClosed rev (s.readRecord h k) s).setFr
          { s.fr with record := none, closeCount := 0, search := if s.searchRuns then some 0 else none },
        .closed (closeReportOf s o h k)) := by
  obtain ⟨⟨-, -, hoc, -⟩, hfr⟩ := placeClosed_same rev (s.readRecord h k) s
  have hs : (placeClosed rev (s.readRecord h k) s).searchRuns = s.searchRuns := by simp only [State.searchRuns, hoc]
  unfold closeRecord
  rw [closeCondition_eq s h k]
  change (State.setFr (placeClosed rev (s.readRecord h k) s)
    { (placeClosed rev (s.readRecord h k) s).fr with
      record := none, closeCount := 0,
      search := if (placeClosed rev (s.readRecord h k) s).searchRuns = true then some 0 else none }, _) = _
  rw [hs, hfr]
  rfl

/-- A record of the selected unit, placed going forward. -/
theorem placeClosed_forward {u : UnitId} (hs : s.tlc.selected = some u) (r : RecordInfo) :
    placeClosed false r s = placeForward u r false s := by simp [placeClosed, hs]

theorem placeClosed_reverse {u : UnitId} (hs : s.tlc.selected = some u) (r : RecordInfo) :
    placeClosed true r s = placeReverse u r s := by simp [placeClosed, hs]

/-! ### The credit of a close (R154, R184) -/

theorem creditClose_qualifiers (a : Active) (r : CloseReport) :
    (creditClose a r).qualifiers = { a.qualifiers with longRecord := a.qualifiers.longRecord || r.long } := by
  obtain ⟨ident, kind, trailer, received, dataCheck, lengthExcess, overrun, long⟩ := r
  unfold creditClose
  cases long <;> cases hc : a.cmd.code
  all_goals simp only [hc, if_true, Bool.false_eq_true, if_false, Bool.or_false, Bool.or_true]
  all_goals split <;> rfl

/-- The records passed, once a record has closed (R154, R161 to R165). -/
theorem creditClose_passed (h : a.cmd.code.readClass = true) (r : CloseReport) :
    (creditClose a r).passed = a.passedAfter r.trailer r.received := by
  have hl : ∀ b : Active, (if r.long = true then { b with qualifiers := { b.qualifiers with longRecord := true } } else b).passed =
      b.passed := fun b => by split <;> rfl
  unfold creditClose Active.passedAfter raisePassed
  cases hc : a.cmd.code <;> simp only [hc, CommandCode.readClass, Bool.false_eq_true] at h
  case read => cases r.long <;> cases r.received <;> simp [hc, Config.passedLimit]
  case readStream => cases r.long <;> cases r.received <;> simp [hc, Config.passedLimit]
  case space => cases r.long <;> cases r.trailer <;> simp [hc, Config.passedLimit]
  case spaceMarks => cases r.long <;> cases r.trailer <;> simp [hc, Config.passedLimit]
  case locate => cases r.long <;> cases hp : a.phase <;> simp [hc, hp, Config.passedLimit]

/-- The ordinal the completion shows: of the record received by a READ or READ STREAM, of every record for the others (R154). -/
theorem creditClose_ordinal (h : a.cmd.code.readClass = true) (r : CloseReport) :
    (creditClose a r).ordinal =
      if (a.cmd.code = .read ∨ a.cmd.code = .readStream) ∧ r.received = false then a.ordinal else r.ident.map Ident.ordinal := by
  unfold creditClose
  cases hc : a.cmd.code <;> simp only [hc, CommandCode.readClass, Bool.false_eq_true] at h
  case read => cases r.long <;> cases r.received <;> simp [hc]
  case readStream => cases r.long <;> cases r.received <;> simp [hc]
  case space => cases r.long <;> cases r.trailer <;> simp [hc]
  case spaceMarks => cases r.long <;> cases r.trailer <;> simp [hc]
  case locate => cases r.long <;> cases hp : a.phase <;> simp [hc, hp]

/-- The completion posted with a close carries what the close gave the command, but for a condition of the outcome's own name (R97,
R184). -/
theorem carriesClose_postedRecord {outcome : CmdOutcome} (hcmd : b.cmd = a.cmd) (hfr : t.fr.record = none)
    (hpassed : b.passed = (creditClose a (closeReportOf s o h k)).passed)
    (hordinal : b.ordinal = (creditClose a (closeReportOf s o h k)).ordinal)
    (hq : b.qualifiers =
      withoutOwnName outcome
        (recordQualifiers (closeReportOf s o h k) (creditClose a (closeReportOf s o h k)).qualifiers)) :
    carriesClose a o h k outcome s (postedRecord b outcome t) := by
  obtain ⟨e, stale, eq⟩ := postedRecord_eq b outcome t
  rw [creditClose_qualifiers] at hq
  rw [e, eq, Active.withOpenRecord_none b t.fr hfr]
  simp only [carriesClose, completionOf, hcmd, hq, hpassed, hordinal]
  refine ⟨fun hread => ?counts, ?long, fun hgot => ?conditions⟩
  case counts =>
    have hnot : a.cmd.code.writesCopies = false := by
      cases hc : a.cmd.code <;> simp_all [CommandCode.readClass, CommandCode.writesCopies]
    rw [creditClose_passed hread, creditClose_ordinal hread, hread, hnot]
    simp only [closeReportOf, Bool.or_true, if_true, true_and]
    refine ⟨fun hc hg => by simp [hc, hg], fun hc hg => by simp [hg], fun h1 h2 => by simp [h1, h2]⟩
  case long => cases outcome <;> cases hg : o.received <;> simp [withoutOwnName, recordQualifiers, closeReportOf, hg]
  case conditions => cases outcome <;> simp [withoutOwnName, recordQualifiers, closeReportOf, hgot]

end Close

/-! ### The reader at an event (R95) -/

section Event
variable {s : State}

/-- The OC's modes agree, but for what the close of a record leaves of an active command. -/
def SameCommand (x y : Operation) : Prop :=
  y = x ∨ ∃ a b, x = .active a ∧ y = .active b ∧ b.cmd = a.cmd ∧ b.phase = a.phase

theorem SameCommand.trans {x y z : Operation} (h : SameCommand x y) (k : SameCommand y z) : SameCommand x z := by
  rcases h with rfl | ⟨a, b, hx, rfl, hc, hp⟩
  · exact k
  · rcases k with rfl | ⟨a', c, hy, hz, hc', hp'⟩
    · exact .inr ⟨a, b, hx, rfl, hc, hp⟩
    · cases hy
      exact .inr ⟨a, c, hx, hz, hc'.trans hc, hp'.trans hp⟩

theorem noteClose_fr (p : ParseReport) (s : State) :
    (noteClose p s).fr.mode = s.fr.mode ∧ (noteClose p s).fr.run = s.fr.run ∧ (noteClose p s).fr.record = s.fr.record := by
  rcases noteClose_cases s p with e | ⟨r, a, -, -, e⟩
  · rw [e]; exact ⟨rfl, rfl, rfl⟩
  · rw [e]
    rcases discardVoid_cases s (creditClose a r) r with d | ⟨-, -, -, -, d⟩ <;> rw [d] <;> dsimp only <;> split <;>
      exact ⟨rfl, rfl, rfl⟩

theorem breakOpen_fr (s : State) : (breakOpen s).fr.run = none ∧ (breakOpen s).fr.mode = s.fr.mode := by
  unfold breakOpen
  split
  · split <;> exact ⟨rfl, rfl⟩
  · exact ⟨rfl, rfl⟩

/-- The reader's part of an event once the run in progress is at an end: the open record closes or is lost. -/
def eventRecord (reverse : Bool) (s : State) : State :=
  match s.fr.record with
  | none => s
  | some o =>
    if reverse then s.setFr (s.fr.loseRecord s.inForce false)
    else
      match o.header with
      | some h => noteClose (closeRecord o h .none false s).2 (closeRecord o h .none false s).1
      | none => s.setFr (s.fr.loseRecord s.inForce false)

/-- The run in progress, ended by an event with the frame still being assembled. -/
def endRun (s : State) : State :=
  breakOpen (noteClose (breakClose (handOpenFrame s)).2 (breakClose (handOpenFrame s)).1)

theorem readerAtEvent_of_parse {reverse : Bool} (h : s.fr.mode = .parse reverse) :
    readerAtEvent s = eventRecord reverse (endRun s) := by
  unfold readerAtEvent eventRecord endRun
  rewrite [h]
  rfl

theorem readerAtEvent_of_not_parse (h : ∀ rev, s.fr.mode ≠ .parse rev) : readerAtEvent s = s := by
  unfold readerAtEvent
  cases hm : s.fr.mode <;> simp_all

theorem endRun_same (s : State) : SameButClose s (endRun s) :=
  ((handOpenFrame_same s).trans (breakClose_same _)).toClose.trans ((noteClose_same _ _).trans (breakOpen_same _).toClose)

theorem noteClose_sameCommand (p : ParseReport) (s : State) : SameCommand s.oc (noteClose p s).oc := noteClose_oc s p

theorem endRun_sameCommand (s : State) : SameCommand s.oc (endRun s).oc := by
  have h1 : (breakClose (handOpenFrame s)).1.oc = s.oc := ((handOpenFrame_same s).trans (breakClose_same _)).2.2.1
  have h2 := noteClose_sameCommand (breakClose (handOpenFrame s)).2 (breakClose (handOpenFrame s)).1
  rw [h1] at h2
  rw [endRun, (breakOpen_same _).2.2.1]
  exact h2

/-- The three courses of the reader's part: nothing is open, the forward record with a header closes unsealed, any other is lost. -/
theorem eventRecord_cases (reverse : Bool) (s : State) :
    (s.fr.record = none ∧ eventRecord reverse s = s) ∨
      (∃ o h, s.fr.record = some o ∧ o.header = some h ∧
        eventRecord reverse s = noteClose (closeRecord o h .none false s).2 (closeRecord o h .none false s).1) ∨
      eventRecord reverse s = s.setFr (s.fr.loseRecord s.inForce false) := by
  unfold eventRecord
  cases hr : s.fr.record with
  | none => exact .inl ⟨rfl, rfl⟩
  | some o =>
    cases reverse with
    | true => exact .inr (.inr rfl)
    | false =>
      cases hh : o.header with
      | none => exact .inr (.inr (by simp [hh]))
      | some h => exact .inr (.inl ⟨o, h, rfl, hh, by simp [hh]⟩)

theorem eventRecord_same (reverse : Bool) (s : State) : SameButClose s (eventRecord reverse s) := by
  rcases eventRecord_cases reverse s with ⟨-, e⟩ | ⟨o, h, -, -, e⟩ | e <;> rw [e]
  · exact SameButClose.refl s
  · exact (closeRecord_same s _ _ _ _).toClose.trans (noteClose_same _ _)
  · exact (SameButReader.setFr s _).toClose

theorem eventRecord_sameCommand (reverse : Bool) (s : State) : SameCommand s.oc (eventRecord reverse s).oc := by
  rcases eventRecord_cases reverse s with ⟨-, e⟩ | ⟨o, h, -, -, e⟩ | e <;> rw [e]
  · exact .inl rfl
  · have h1 : (closeRecord o h .none false s).1.oc = s.oc := (closeRecord_same s _ _ _ _).2.2.1
    have h2 := noteClose_sameCommand (closeRecord o h .none false s).2 (closeRecord o h .none false s).1
    rwa [h1] at h2
  · exact .inl rfl

theorem closeRecord_run (o : OpenRecord) (h : Header) (k : Trailer) (rev : Bool) (s : State) :
    (closeRecord o h k rev s).1.fr.run = s.fr.run ∧ (closeRecord o h k rev s).1.fr.record = none := by
  rw [closeRecord_eq]; exact ⟨rfl, rfl⟩

theorem FrameReader.loseRecord_run (fr : FrameReader) (inForce runs : Bool) :
    (fr.loseRecord inForce runs).run = fr.run ∧ (fr.loseRecord inForce runs).record = none := by
  unfold FrameReader.loseRecord FrameReader.markFragments
  cases inForce <;> exact ⟨rfl, rfl⟩

/-- After the event no record is open, and no run either. -/
theorem eventRecord_fr (reverse : Bool) (s : State) :
    (eventRecord reverse s).fr.run = s.fr.run ∧ (eventRecord reverse s).fr.record = none := by
  rcases eventRecord_cases reverse s with ⟨hr, e⟩ | ⟨o, h, -, -, e⟩ | e <;> rw [e]
  · exact ⟨rfl, hr⟩
  · obtain ⟨-, h2, h3⟩ := noteClose_fr (closeRecord o h .none false s).2 (closeRecord o h .none false s).1
    obtain ⟨k1, k2⟩ := closeRecord_run o h .none false s
    exact ⟨h2.trans k1, h3.trans k2⟩
  · exact FrameReader.loseRecord_run _ _ _

theorem readerAtEvent_same (s : State) : SameButClose s (readerAtEvent s) := by
  cases hm : s.fr.mode with
  | parse rev => rw [readerAtEvent_of_parse hm]; exact (endRun_same s).trans (eventRecord_same rev _)
  | idle => rw [readerAtEvent_of_not_parse (by simp [hm])]; exact SameButClose.refl s
  | readback => rw [readerAtEvent_of_not_parse (by simp [hm])]; exact SameButClose.refl s

theorem readerAtEvent_sameCommand (s : State) : SameCommand s.oc (readerAtEvent s).oc := by
  cases hm : s.fr.mode with
  | parse rev => rw [readerAtEvent_of_parse hm]; exact (endRun_sameCommand s).trans (eventRecord_sameCommand rev _)
  | idle => rw [readerAtEvent_of_not_parse (by simp [hm])]; exact .inl rfl
  | readback => rw [readerAtEvent_of_not_parse (by simp [hm])]; exact .inl rfl

theorem readerAtEvent_nothingToBreak (s : State) : (readerAtEvent s).fr.nothingToBreak := by
  cases hm : s.fr.mode with
  | parse rev =>
    rw [readerAtEvent_of_parse hm]
    exact .inl ((eventRecord_fr rev _).1.trans (breakOpen_fr _).1)
  | idle => rw [readerAtEvent_of_not_parse (by simp [hm])]; exact .inr (by simp [hm])
  | readback => rw [readerAtEvent_of_not_parse (by simp [hm])]; exact .inr (by simp [hm])

/-- A frame handed to its run stays so: the event that ends the run finds nothing more to hand. -/
theorem handOpenFrame_handOpenFrame (s : State) : handOpenFrame (handOpenFrame s) = handOpenFrame s := by
  rcases handOpenFrame_cases s with e | ⟨x, r, rev, -, -, hm, -, e⟩
  · rw [e, e]
  · rw [e]
    simp only [handOpenFrame, State.setFr_fr, hm]
    rfl

theorem handOpenFrame_mode (s : State) : (handOpenFrame s).fr.mode = s.fr.mode := by
  rcases handOpenFrame_cases s with e | ⟨x, r, rev, -, -, -, -, e⟩ <;> rw [e]
  rfl

theorem readerAtEvent_handOpenFrame (s : State) : readerAtEvent (handOpenFrame s) = readerAtEvent s := by
  cases hm : s.fr.mode with
  | parse rev =>
    rw [readerAtEvent_of_parse hm, readerAtEvent_of_parse ((handOpenFrame_mode s).trans hm), endRun, handOpenFrame_handOpenFrame]
    rfl
  | idle => rw [handOpenFrame_of_nothing (.inr (by simp [hm]))]
  | readback => rw [handOpenFrame_of_nothing (.inr (by simp [hm]))]

/-- With no run in progress the event meets the open record at once. -/
theorem endRun_of_no_run (h : s.fr.run = none) : endRun s = s := by
  have hn : s.fr.nothingToBreak := .inl h
  rw [endRun, handOpenFrame_of_nothing hn, breakClose_of_nothing hn]
  change breakOpen s = s
  rw [breakOpen_of_nothing hn]
  cases s with | mk hw cu oc timer tlc fw fr vu rc bu cmp pending =>
  cases fr
  simp_all [State.setFr]

/-- A void's bytes are discarded only for the command of a close, with no reset pending. -/
theorem noteClose_bu (p : ParseReport) (h : s.hw.resetPending = true ∨ s.active = none) : (noteClose p s).bu = s.bu := by
  rcases noteClose_cases s p with e | ⟨r, a, -, ha, e⟩
  · rw [e]
  · rcases h with h | h
    · rw [e]
      rcases discardVoid_cases s (creditClose a r) r with d | ⟨-, -, -, hp, -⟩
      · rw [d]; dsimp only; split <;> rfl
      · simp [h] at hp
    · simp [State.active, ha] at h

theorem SameCommand.active_none {x y : State} (h : SameCommand x.oc y.oc) (hx : x.active = none) : y.active = none := by
  rw [State.active_eq_none] at hx ⊢
  rcases h with h | ⟨a, b, ha, -⟩
  · rw [h]; exact hx
  · exact absurd ha (hx a)

theorem endRun_bu (h : s.hw.resetPending = true ∨ s.active = none) : (endRun s).bu = s.bu := by
  have hb := (handOpenFrame_same s).trans (breakClose_same _)
  have hcond : (breakClose (handOpenFrame s)).1.hw.resetPending = true ∨ (breakClose (handOpenFrame s)).1.active = none := by
    rcases h with h | h
    · exact .inl (by rw [hb.1]; exact h)
    · exact .inr (SameCommand.active_none (.inl hb.2.2.1) h)
  obtain ⟨-, -, -, -, -, -, -, h8, -, -⟩ := breakOpen_same (noteClose (breakClose (handOpenFrame s)).2 (breakClose (handOpenFrame s)).1)
  obtain ⟨-, -, -, -, -, -, -, k8, -, -⟩ := hb
  exact h8.trans ((noteClose_bu _ hcond).trans k8)

theorem eventRecord_bu (reverse : Bool) (h : s.hw.resetPending = true ∨ s.active = none) :
    (eventRecord reverse s).bu = s.bu := by
  rcases eventRecord_cases reverse s with ⟨-, e⟩ | ⟨o, hd, -, -, e⟩ | e <;> rw [e]
  · have hs := closeRecord_same s o hd .none false
    have hcond : (closeRecord o hd .none false s).1.hw.resetPending = true ∨ (closeRecord o hd .none false s).1.active = none := by
      rcases h with h | h
      · exact .inl (by rw [hs.1]; exact h)
      · exact .inr (SameCommand.active_none (.inl hs.2.2.1) h)
    obtain ⟨-, -, -, -, -, -, -, k8, -, -⟩ := hs
    exact (noteClose_bu _ hcond).trans k8
  · rfl

theorem readerAtEvent_bu (h : s.hw.resetPending = true ∨ s.active = none) : (readerAtEvent s).bu = s.bu := by
  cases hm : s.fr.mode with
  | parse rev =>
    rw [readerAtEvent_of_parse hm]
    refine (eventRecord_bu rev ?_).trans (endRun_bu h)
    rcases h with h | h
    · exact .inl (by rw [(endRun_same s).1]; exact h)
    · exact .inr ((endRun_sameCommand s).active_none h)
  | idle => rw [readerAtEvent_of_not_parse (by simp [hm])]
  | readback => rw [readerAtEvent_of_not_parse (by simp [hm])]

end Event

end Sys2Proof.Machine
end

section
/-! PROOF. The terminating reports: END, LOAD POINT in reverse, loss of speed, loss of permit, the echo deadline and the limits of the
TLC (R25, R28 to R31, R39, R58 to R60, R74, R95). -/

namespace Sys2Proof.Machine

/-! ### The gate drop under a command (R58, R65, R78, R118) -/

section Cut
variable {s y : State} {a : Active} {x : CopyAccount}

/-- A copy that the drop cuts is described unsealed, its account ends so, and the Verify Unit has the end-of-write notice. -/
theorem dropGateAndReport_of_cut (hg : s.fw.gate = true) (hx : s.fw.account = some x) (hin : x.ended = .inProgress)
    (hoc : s.oc = .active a) :
    (dropGateAndReport s).rc = (placeForward a.cmd.unit (writtenRecord a x .none) x.passed s).rc ∧
      (dropGateAndReport s).fw.account = some { x with ended := .unsealed } ∧ (dropGateAndReport s).vu = s.vu.endOfWrite := by
  have hcopy : s.copyInProgress = true := copyInProgress_iff.mpr ⟨x, hx, hin⟩
  let cut : State :=
    (s.setFw { s.fw with gate := false, watch := none, account := some { x with ended := .unsealed } }).setVu s.vu.endOfWrite
  have hdrop : dropGate s = cut := by
    simp only [dropGate, hg, hcopy, if_true, State.setFw_fw, hx]
    rfl
  have e : dropGateAndReport s = endCopy a .unsealed cut := by
    unfold dropGateAndReport
    dsimp only
    rw [hdrop, show cut.oc = .active a from hoc, hg, hcopy]
    rfl
  obtain ⟨hrc, hfw⟩ := endCopy_of_account (s := cut) (a := a) (x := { x with ended := .unsealed }) rfl .unsealed
  rw [e]
  refine ⟨hrc.trans (placeForward_rc_congr (s := s) (r := cut) rfl rfl _ _ _), by rw [hfw], ?_⟩
  exact (endCopy_blocks (s := cut) a .unsealed).2.2.2.2.2.2.1

/-- The Verify Unit after the end-of-write notice (R118). -/
theorem VerifyUnit.endOfWrite_facts (v : VerifyUnit) :
    v.endOfWrite.state = .idle ∧ (v.state ≠ .idle → v.endOfWrite.window = []) ∧
      v.endOfWrite.reported =
        (match (match v.state with
          | .idle => none
          | .listening => v.copyFailure
          | .trailerCheck => v.trailerFailure) with
        | some k => some k
        | none => v.reported) := by
  unfold VerifyUnit.endOfWrite
  cases hs : v.state
  · exact ⟨hs, fun h => absurd rfl h, rfl⟩
  · exact ⟨rfl, fun _ => rfl, rfl⟩
  · exact ⟨rfl, fun _ => rfl, rfl⟩

/-! ### What neither the link nor the gate looks at: the reader -/

theorem sendStop_setFr (f : FrameReader) : sendStop (s.setFr f) = (sendStop s).setFr f := by
  cases hs : s.tlc.selected with
  | none => rw [sendStop_of_unselected hs, sendStop_of_unselected (s := s.setFr f) hs]
  | some u =>
    by_cases h : s.underWay u
    · rw [sendStop_of_underWay hs h, sendStop_of_underWay (s := s.setFr f) hs h]; rfl
    · rw [sendStop_of_not_underWay hs h, sendStop_of_not_underWay (s := s.setFr f) hs h]

theorem placeForward_setFr (f : FrameReader) (u : UnitId) (r : RecordInfo) (p : Bool) :
    placeForward u r p (s.setFr f) = (placeForward u r p s).setFr f := by
  unfold placeForward
  by_cases h : s.tlc.selected = some u
  · rw [if_pos h, if_pos (show (s.setFr f).tlc.selected = some u from h)]; rfl
  · rw [if_neg h, if_neg (show ¬(s.setFr f).tlc.selected = some u from h)]

theorem endCopy_setFr (f : FrameReader) (e : CopyEnding) : endCopy a e (s.setFr f) = (endCopy a e s).setFr f := by
  unfold endCopy
  rw [State.setFr_fw]
  cases s.fw.account with
  | none => rfl
  | some x => exact placeForward_setFr (s := s.setAccount { x with ended := e }) f _ _ _

theorem dropGate_setFr (f : FrameReader) : dropGate (s.setFr f) = (dropGate s).setFr f := by
  unfold dropGate
  rw [State.setFr_fw]
  cases s.fw.gate with
  | false => rfl
  | true =>
    have hc : (s.setFr f).copyInProgress = s.copyInProgress := rfl
    dsimp only
    rw [hc, if_pos rfl, if_pos rfl]
    cases s.copyInProgress with
    | false => rfl
    | true =>
      rw [if_pos rfl, if_pos rfl, State.setFw_fw, State.setFw_fw]
      cases s.fw.account <;> rfl

theorem dropGateAndReport_setFr (f : FrameReader) : dropGateAndReport (s.setFr f) = (dropGateAndReport s).setFr f := by
  unfold dropGateAndReport
  dsimp only
  have hc : (s.setFr f).copyInProgress = s.copyInProgress := rfl
  have hoc : (dropGate s).oc = s.oc := (dropGate_blocks s).2.2.1
  rw [dropGate_setFr, hc, State.setFr_fw, State.setFr_oc, hoc]
  cases s.oc with
  | active a =>
    dsimp only
    cases s.fw.gate && s.copyInProgress
    · rfl
    · exact endCopy_setFr f _
  | idle => rfl
  | finishing _ => rfl
  | stopping => rfl

/-- A step that neither sees nor moves the reader, with the OC's mode kept, leaves the frame in progress to be handed on as before. -/
theorem handOpenFrame_comm {g : State → State} (hset : ∀ f, g (s.setFr f) = (g s).setFr f) (hfr : (g s).fr = s.fr)
    (hoc : (g s).oc = s.oc) : g (handOpenFrame s) = handOpenFrame (g s) := by
  have hp : ∀ r, (g s).passesCount r = s.passesCount r := fun r => by simp only [State.passesCount, hoc]
  unfold handOpenFrame
  rw [hfr]
  cases s.fr.frame with
  | none => rfl
  | some x =>
    cases s.fr.run with
    | none => rfl
    | some r =>
      cases s.fr.mode with
      | idle => rfl
      | readback => rfl
      | parse rev =>
        dsimp only
        rw [hp r]
        split
        · rfl
        · exact hset _

end Cut

/-! ### The reader at an event, where it has an open record and no run (R95) -/

section Open
variable {s : State} {a : Active} {o : OpenRecord} {h : Header} {u : UnitId}

theorem noteClose_rc (p : ParseReport) : (noteClose p s).rc = s.rc := by
  rcases noteClose_cases s p with e | ⟨r, a, -, -, e⟩
  · rw [e]
  · rw [e]
    rcases discardVoid_cases s (creditClose a r) r with d | ⟨-, -, -, -, d⟩ <;> rw [d] <;> dsimp only <;> split <;> rfl

/-- A record is judged by the reader's account alone. -/
theorem State.readRecord_congr {r : State} (hfr : r.fr = s.fr) (h : Header) (k : Trailer) : r.readRecord h k = s.readRecord h k := by
  cases r; cases s; cases hfr; rfl

theorem State.badRecord_congr {r : State} (hfr : r.fr = s.fr) (h : Header) : r.badRecord h = s.badRecord h := by
  cases r; cases s; cases hfr; rfl

/-- The credit of a close that is no void's. -/
theorem noteClose_of_closed {r : CloseReport} (hoc : s.oc = .active a) (hv : r.trailer ≠ .void) :
    (noteClose (.closed r) s).oc =
      .active { creditClose a r with qualifiers := recordQualifiers r (creditClose a r).qualifiers } := by
  rcases discardVoid_cases s (creditClose a r) r with d | ⟨-, -, hvoid, -⟩
  · unfold noteClose
    simp only [hoc, d]
    rfl
  · exact absurd hvoid hv

/-- A forward record open with its header closes unsealed: into the catalogue, and to the command. -/
theorem readerAtEvent_of_open (hm : s.fr.mode = .parse false) (hrun : s.fr.run = none) (hrec : s.fr.record = some o)
    (hh : o.header = some h) :
    (∀ u, s.tlc.selected = some u → (readerAtEvent s).rc = (placeForward u (s.readRecord h .none) false s).rc) ∧
      ∀ a, s.oc = .active a →
        (readerAtEvent s).oc =
          .active
            { creditClose a (closeReportOf s o h .none) with
              qualifiers :=
                recordQualifiers (closeReportOf s o h .none) (creditClose a (closeReportOf s o h .none)).qualifiers } := by
  have e : readerAtEvent s = noteClose (closeRecord o h .none false s).2 (closeRecord o h .none false s).1 := by
    rw [readerAtEvent_of_parse hm, endRun_of_no_run hrun]
    simp [eventRecord, hrec, hh]
  have hoc : (closeRecord o h .none false s).1.oc = s.oc := (closeRecord_same s _ _ _ _).2.2.1
  rw [e]
  refine ⟨fun u hs => ?_, fun a ha => ?_⟩
  · rw [noteClose_rc, closeRecord_eq, placeClosed_forward hs]; rfl
  · rw [closeRecord_eq] at hoc ⊢
    exact noteClose_of_closed (hoc.trans ha) nofun

/-- One open in reverse becomes fragments, and the catalogue stands (R89, R95). -/
theorem readerAtEvent_reverse (hm : s.fr.mode = .parse true) (hrun : s.fr.run = none) :
    (readerAtEvent s).rc = s.rc ∧ (readerAtEvent s).fr.record = none ∧
      (s.fr.record.isSome = true → s.inForce = true → (readerAtEvent s).fr.account.fragments = true) := by
  have e : readerAtEvent s = if s.fr.record.isSome then s.setFr (s.fr.loseRecord s.inForce false) else s := by
    rw [readerAtEvent_of_parse hm, endRun_of_no_run hrun]
    unfold eventRecord
    cases s.fr.record <;> rfl
  rw [e]
  cases hrec : s.fr.record with
  | none => exact ⟨rfl, hrec, nofun⟩
  | some o =>
    refine ⟨rfl, (FrameReader.loseRecord_run _ _ _).2, fun _ hin => ?_⟩
    simp [FrameReader.loseRecord, FrameReader.markFragments, hin]

end Open

/-! ### A report on its way to the OC (R58 to R60) -/

section Reported
variable {s y x t : State} {a : Active} {o : CmdOutcome}

/-- What `x`, in which the OC hears of a report, has of `s`, in which it came: STOP has been sent on the link as `y` has it, and of the
operation nothing has changed but what the close of a record gave it. -/
structure Reported (s y x : State) : Prop where
  hw : x.hw = s.hw
  cu : x.cu = s.cu
  cmp : x.cmp = s.cmp
  bu : s.hw.resetPending = true ∨ s.active = none → x.bu = s.bu
  tlc : x.tlc = (sendStop y).tlc
  oc : SameCommand s.oc x.oc

theorem Reported.active (h : Reported s y x) (hoc : s.oc = .active a) :
    ∃ b, x.oc = .active b ∧ b.cmd = a.cmd ∧ b.phase = a.phase := by
  rcases h.oc with e | ⟨a', b, ha, hb, hc, hp⟩
  · exact ⟨a, e.trans hoc, rfl, rfl⟩
  · cases hoc.symm.trans ha
    exact ⟨b, hb, hc, hp⟩

theorem Reported.finishing (h : Reported s y x) {f : Finishing} (hoc : s.oc = .finishing f) : x.oc = .finishing f := by
  rcases h.oc with e | ⟨a', b, ha, -⟩
  · exact e.trans hoc
  · simp [hoc] at ha

theorem endInStop_of_active {b : Active} (hoc : x.oc = .active b) : endInStop o x = conclude b o .stop x := by
  simp [endInStop, hoc]

theorem endInStop_of_finishing {f : Finishing} (hoc : x.oc = .finishing f) : endInStop o x = enterStopping x := by
  simp [endInStop, hoc]

theorem conclude_stop_eq {b : Active} (hp : x.hw.resetPending = false) :
    conclude b o .stop x = enterStopping (postActive b o x) := by simp [conclude, hp]

theorem Reported.stopped_again (h : Reported s y x) : (clearedForReset x).tlc = (sendStop y).tlc := by
  rw [clearedForReset_tlc, sendStop_tlc_congr h.tlc, sendStop_sendStop]

/-- The end: posted and stopped; or the reset in its place; or FINISH ended in the stop. -/
theorem Reported.ends (h : Reported s y x) :
    (∀ a, s.oc = .active a → s.hw.resetPending = false → posted a o s (endInStop o x) ∧ stops y (endInStop o x)) ∧
    (∀ a, s.oc = .active a → s.hw.resetPending = true →
      resetClears s (endInStop o x) ∧ stops y (endInStop o x) ∧ (endInStop o x).timer = .stopped) ∧
    (∀ f, s.oc = .finishing f →
      stops y (endInStop o x) ∧ (endInStop o x).cmp = s.cmp ∧ (endInStop o x).cu = s.cu ∧ (endInStop o x).bu = s.bu) := by
  refine ⟨fun a hoc hp => ?_, fun a hoc hp => ?_, fun f hoc => ?_⟩
  · obtain ⟨b, hb, hcmd, -⟩ := h.active hoc
    have hpx : x.hw.resetPending = false := by rw [h.hw, hp]
    obtain ⟨⟨h1, h2, h3⟩, -⟩ := conclude_stop (s := x) (t := sendStop x) (b := b) (a := a) (o := o) hcmd (sendStop_cmp x)
      (sendStop_cu x) (by simpa using hpx) rfl
    rw [endInStop_of_active hb, conclude_stop_eq hpx]
    obtain ⟨k1, k2, k3⟩ := postActive_posted (s := s) (t := x) (a := a) (b := b) (o := o) hcmd h.cmp h.cu
    exact ⟨⟨by rw [enterStopping_cmp]; exact k1, by rw [enterStopping_bu]; exact k2, by rw [enterStopping_cu]; exact k3⟩,
      stops_enterStopping h.tlc⟩
  · obtain ⟨b, hb, -, -⟩ := h.active hoc
    rw [endInStop_of_active hb, conclude_pending (by rw [h.hw, hp])]
    refine ⟨controlResetEffect_clears_of h.hw h.cu (h.bu (.inl hp)), ?_, controlResetEffect_timer x⟩
    rw [controlResetEffect_eq]
    exact stops_enterStopping h.stopped_again
  · rw [endInStop_of_finishing (h.finishing hoc)]
    exact ⟨stops_enterStopping h.tlc, (enterStopping_cmp x).trans h.cmp, (enterStopping_cu x).trans h.cu,
      (enterStopping_bu x).trans (h.bu (.inr (by simp [State.active, hoc])))⟩

/-- A stop keeps a gate that is OFF, has no record open where there was none, and starts no timer. -/
theorem enterStopping_keeps (s : State) :
    (s.fw.gate = false → (enterStopping s).fw.gate = false) ∧ (s.fr.record = none → (enterStopping s).fr.record = none) ∧
      (s.tlc.atSpeedTimer = false → (enterStopping s).tlc.atSpeedTimer = false) ∧
      (s.tlc.acceptanceTimer = false → (enterStopping s).tlc.acceptanceTimer = false) := by
  rcases enterStopping_cases s with ⟨-, e⟩ | ⟨-, e⟩ <;> rw [e]
  · exact ⟨id, id, id, id⟩
  · exact ⟨fun _ => rfl, fun _ => rfl, fun _ => rfl, fun _ => rfl⟩

/-- The copy in TRAILER CHECK is the reset's own affair, and a reset there is due before any report. -/
theorem Reported.describeCommitted (h : Reported s y x) (hund : s.undisturbed = true) (hp : s.hw.resetPending = true) :
    describeCommitted x = x := by
  unfold Machine.describeCommitted
  split
  · rename_i b hb
    refine if_neg fun ⟨hph, _⟩ => ?_
    have hpoint : s.resetPoint = true := by
      rcases h.oc with e | ⟨a, b', ha, hb', -, hp'⟩
      · simp [State.resetPoint, ← e, hb, hph]
      · cases hb.symm.trans hb'
        simp [State.resetPoint, ha, ← hp', hph]
    simp [State.notPending_of_point hund hpoint] at hp
  · rfl

/-- What the end of an operation or of FINISH leaves as the report left it. -/
theorem Reported.keeps (h : Reported s y x) (hund : s.undisturbed = true)
    (hoc : (∃ a, s.oc = .active a) ∨ ∃ f, s.oc = .finishing f) :
    (x.fr.nothingToBreak → (endInStop o x).rc = x.rc) ∧ (x.fw.gate = false → (endInStop o x).fw.gate = false) ∧
      (x.fr.record = none → (endInStop o x).fr.record = none) ∧
      (x.tlc.atSpeedTimer = false → (endInStop o x).tlc.atSpeedTimer = false) ∧
      (x.tlc.acceptanceTimer = false → (endInStop o x).tlc.acceptanceTimer = false) := by
  have through {z : State} (e : endInStop o x = enterStopping z) (hrc : z.rc = x.rc) (hrun : z.fr.nothingToBreak ↔ x.fr.nothingToBreak)
      (hgate : z.fw.gate = x.fw.gate) (hrec : x.fr.record = none → z.fr.record = none) (htlc : z.tlc = x.tlc) :
      (x.fr.nothingToBreak → (endInStop o x).rc = x.rc) ∧ (x.fw.gate = false → (endInStop o x).fw.gate = false) ∧
        (x.fr.record = none → (endInStop o x).fr.record = none) ∧
        (x.tlc.atSpeedTimer = false → (endInStop o x).tlc.atSpeedTimer = false) ∧
        (x.tlc.acceptanceTimer = false → (endInStop o x).tlc.acceptanceTimer = false) := by
    obtain ⟨k1, k2, k3, k4⟩ := enterStopping_keeps z
    obtain ⟨-, -, -, -, -, -, -, -, -, hz, -⟩ := enterStopping_blocks z
    rw [← e] at k1 k2 k3 k4 hz
    exact ⟨fun hq => (hz (hrun.mpr hq)).trans hrc, fun hg => k1 (hgate.trans hg), fun hr => k2 (hrec hr),
      fun hs => k3 (by rw [htlc, hs]), fun ha => k4 (by rw [htlc, ha])⟩
  have hposting (fr : FrameReader) : fr.afterPosting.nothingToBreak ↔ fr.nothingToBreak := by
    simp [FrameReader.nothingToBreak, FrameReader.afterPosting]
  rcases hoc with ⟨a, hoc⟩ | ⟨f, hoc⟩
  · obtain ⟨b, hb, -, -⟩ := h.active hoc
    have e := endInStop_of_active (o := o) hb
    cases hp : s.hw.resetPending with
    | false =>
      exact through (e.trans (conclude_stop_eq (by rw [h.hw, hp]))) rfl (hposting x.fr) rfl
        (fun hr => by simp [postActive, FrameReader.afterPosting, hr]) rfl
    | true =>
      have hd := h.describeCommitted hund hp
      refine through (e.trans (conclude_pending (by rw [h.hw, hp]))) (z := clearedForReset x) ?_ ?_ ?_ (fun hr => ?_)
        (h.stopped_again.trans h.tlc.symm)
      · simp only [clearedForReset, hd, State.setTimer_rc, sendStop_rc]; rfl
      · simp only [clearedForReset, hd, State.setTimer_fr, sendStop_fr]; exact hposting x.fr
      · simp only [clearedForReset, hd, State.setTimer_fw, sendStop_fw]; rfl
      · simp only [clearedForReset, hd, State.setTimer_fr, sendStop_fr]
        simp [clearCommandSide, FrameReader.afterPosting, hr]
  · exact through (endInStop_of_finishing (h.finishing hoc)) rfl Iff.rfl rfl id rfl

/-- What the posting places and leaves of the copy's account and of the Verify Unit. -/
theorem Reported.posts (h : Reported s y x) (hp : s.hw.resetPending = false) {b : Active} (hb : x.oc = .active b) :
    (endInStop o x).cmp = s.cmp.place (postedRecord b o x) ∧ (endInStop o x).fw.account = x.fw.account ∧
      (endInStop o x).vu = x.vu := by
  have hpx : x.hw.resetPending = false := by rw [h.hw, hp]
  rw [endInStop_of_active hb, conclude_stop_eq hpx]
  obtain ⟨-, -, hvu, -, hcmp, -, -, hacc, -⟩ := enterStopping_blocks (postActive b o x)
  exact ⟨by rw [hcmp, postActive_cmp, h.cmp], hacc, hvu⟩

/-- The copy cut by a report: the catalogue has it, and the completion its first failure. -/
theorem Reported.copyPlaced (h : Reported s y x) (hund : s.undisturbed = true) (hoc : s.oc = .active a)
    (hx : ∀ c, s.cutsCopy c → x.fr.nothingToBreak ∧ x.rc = (placeForward a.cmd.unit (writtenRecord a c .none) c.passed s).rc) :
    copyPlaced a s (endInStop o x) := fun c hc =>
  ((h.keeps hund (.inl ⟨a, hoc⟩)).1 (hx c hc).1).trans (hx c hc).2

theorem Reported.copyCut (h : Reported s y x) (hund : s.undisturbed = true) (hoc : s.oc = .active a)
    (hp : s.hw.resetPending = false)
    (hx : ∀ c, s.cutsCopy c →
      x.fr.nothingToBreak ∧ x.rc = (placeForward a.cmd.unit (writtenRecord a c .none) c.passed s).rc ∧
        x.fw.account = some { c with ended := .unsealed } ∧ x.vu = s.vu.endOfWrite) :
    copyCut a s (endInStop o x) := by
  refine ⟨h.copyPlaced hund hoc fun c hc => ⟨(hx c hc).1, (hx c hc).2.1⟩, fun c hc => ?_⟩
  obtain ⟨-, -, hacc, hvu⟩ := hx c hc
  obtain ⟨b, hb, hcmd, -⟩ := h.active hoc
  obtain ⟨hcmp, hacc', hvu'⟩ := h.posts (o := o) hp hb
  obtain ⟨v1, v2, v3⟩ := s.vu.endOfWrite_facts
  rw [hacc', hvu', hvu]
  refine ⟨hacc, v1, v2, v3, fun r hr => ?_⟩
  rw [← CompletionUnit.place_injective (hcmp.symm.trans hr), (postedRecord_eq b o x).1]
  simp [completionOf, hcmd, hvu]

end Reported

/-! ### The event at which the gate drops and the reader is told (R30, R95) -/

section Event
variable {s y t : State} {a : Active} {o : CmdOutcome} {u : UnitId}

/-- END and loss of speed before the OC hears of them: STOP, the gate dropped, the reader told. -/
def forwardEvent (y : State) : State := readerAtEvent (dropGateAndReport (sendStop y))

/-- STOP and the gate drop touch neither the reader nor the OC. -/
theorem dropGateAndReport_sendStop_blocks (hy : y = s.setTlc y.tlc) :
    (dropGateAndReport (sendStop y)).hw = s.hw ∧ (dropGateAndReport (sendStop y)).cu = s.cu ∧
      (dropGateAndReport (sendStop y)).oc = s.oc ∧ (dropGateAndReport (sendStop y)).fr = s.fr ∧
      (dropGateAndReport (sendStop y)).bu = s.bu ∧ (dropGateAndReport (sendStop y)).cmp = s.cmp ∧
      (dropGateAndReport (sendStop y)).tlc = (sendStop y).tlc ∧ (dropGateAndReport (sendStop y)).fw.gate = false := by
  obtain ⟨h1, h2, h3, -, h5, h6, h8, h9, hg⟩ := dropGateAndReport_blocks (sendStop y)
  rw [h1, h2, h3, h5, h6, h8, h9]
  refine ⟨?_, ?_, ?_, ?_, ?_, ?_, rfl, hg⟩ <;>
    simp only [sendStop_hw, sendStop_cu, sendStop_oc, sendStop_fr, sendStop_bu, sendStop_cmp] <;>
    (rw [hy]; rfl)

/-- The reader's part of a report, after STOP. -/
theorem Reported.of_readerAtEvent {z : State} (hhw : z.hw = s.hw) (hcu : z.cu = s.cu) (hoc : z.oc = s.oc) (hbu : z.bu = s.bu)
    (hcmp : z.cmp = s.cmp) (htlc : z.tlc = (sendStop y).tlc) : Reported s y (readerAtEvent z) := by
  obtain ⟨h1, h2, -, h4, -, -, h7, -⟩ := readerAtEvent_same z
  refine ⟨h1.trans hhw, h2.trans hcu, h7.trans hcmp, fun hp => (readerAtEvent_bu ?_).trans hbu, h4.trans htlc, ?_⟩
  · rwa [hhw, State.active, hoc]
  · rw [← hoc]; exact readerAtEvent_sameCommand z

theorem forwardEvent_reported (hy : y = s.setTlc y.tlc) : Reported s y (forwardEvent y) := by
  obtain ⟨h1, h2, h3, -, h5, h6, h7, -⟩ := dropGateAndReport_sendStop_blocks hy
  exact Reported.of_readerAtEvent h1 h2 h3 h5 h6 h7

theorem forwardEvent_gate (hy : y = s.setTlc y.tlc) : (forwardEvent y).fw.gate = false := by
  obtain ⟨-, -, -, -, h5, -, -, -⟩ := readerAtEvent_same (dropGateAndReport (sendStop y))
  rw [forwardEvent, h5]
  exact (dropGateAndReport_sendStop_blocks hy).2.2.2.2.2.2.2

/-- What the drop does to a copy it cuts, STOP sent or not. -/
theorem dropGateAndReport_cuts {z : State} (hfw : z.fw = s.fw) (hvu : z.vu = s.vu) (hrc : z.rc = s.rc)
    (hsel : z.tlc.selected = s.tlc.selected) (hz : z.oc = s.oc) (hoc : s.oc = .active a) {c : CopyAccount} (hc : s.cutsCopy c) :
    (dropGateAndReport z).rc = (placeForward a.cmd.unit (writtenRecord a c .none) c.passed s).rc ∧
      (dropGateAndReport z).fw.account = some { c with ended := .unsealed } ∧ (dropGateAndReport z).vu = s.vu.endOfWrite := by
  obtain ⟨hg, -, hacc, hin⟩ := hc
  obtain ⟨h1, h2, h3⟩ := dropGateAndReport_of_cut (s := z) (a := a) (x := c) (by rw [hfw]; exact hg) (by rw [hfw]; exact hacc) hin
    (hz.trans hoc)
  exact ⟨h1.trans (placeForward_rc_congr hrc hsel _ _ _), h2, h3.trans (by rw [hvu])⟩

theorem setTlc_blocks (hy : y = s.setTlc y.tlc) : y.fw = s.fw ∧ y.vu = s.vu ∧ y.rc = s.rc ∧ y.oc = s.oc ∧ y.fr = s.fr := by
  rw [hy]; exact ⟨rfl, rfl, rfl, rfl, rfl⟩

/-- The reader in READBACK has nothing to say at the event: the copy cut is all of it. -/
theorem forwardEvent_cuts (hy : y = s.setTlc y.tlc) (hsel : y.tlc.selected = s.tlc.selected) (hoc : s.oc = .active a)
    {c : CopyAccount} (hc : s.cutsCopy c) :
    (forwardEvent y).fr.nothingToBreak ∧
      (forwardEvent y).rc = (placeForward a.cmd.unit (writtenRecord a c .none) c.passed s).rc ∧
      (forwardEvent y).fw.account = some { c with ended := .unsealed } ∧ (forwardEvent y).vu = s.vu.endOfWrite := by
  obtain ⟨k1, k2, k3, k4, -⟩ := setTlc_blocks hy
  obtain ⟨-, -, -, hfr, -⟩ := dropGateAndReport_sendStop_blocks hy
  have e : forwardEvent y = dropGateAndReport (sendStop y) :=
    readerAtEvent_of_not_parse fun rev h => by rw [hfr, hc.2.1] at h; cases h
  refine ⟨readerAtEvent_nothingToBreak _, ?_⟩
  rw [e]
  exact dropGateAndReport_cuts ((sendStop_fw y).trans k1) ((sendStop_vu y).trans k2) ((sendStop_rc y).trans k3)
    ((sendStop_selected y).trans hsel) ((sendStop_oc y).trans k4) hoc hc

/-- A record open going forward is placed unsealed. -/
theorem forwardEvent_recordPlaced (hy : y = s.setTlc y.tlc) (hsel : y.tlc.selected = s.tlc.selected) (hund : s.undisturbed = true)
    (hoc : (∃ a, s.oc = .active a) ∨ ∃ f, s.oc = .finishing f) : recordPlaced s (endInStop o (forwardEvent y)) := by
  intro u rec h hu hg hm hrun hrec hh
  obtain ⟨k1, -, k3, -, -⟩ := setTlc_blocks hy
  have hoff : (sendStop y).fw.gate = false := by rw [sendStop_fw, k1, hg]
  obtain ⟨-, -, -, hfr, -⟩ := dropGateAndReport_sendStop_blocks hy
  have hdrop := dropGateAndReport_of_off hoff
  rw [hdrop] at hfr
  have e : forwardEvent y = readerAtEvent (sendStop y) := by rw [forwardEvent, hdrop]
  obtain ⟨keepsRc, -, keepsRecord, -⟩ := (forwardEvent_reported hy).keeps (o := o) hund hoc
  have hrecord : (forwardEvent y).fr.record = none := by
    rw [e, readerAtEvent_of_parse (reverse := false) (by rw [hfr, hm])]
    exact (eventRecord_fr false _).2
  refine ⟨keepsRecord hrecord, (keepsRc (readerAtEvent_nothingToBreak _)).trans ?_⟩
  rw [e]
  have hplaced := (readerAtEvent_of_open (s := sendStop y) (o := rec) (h := h) (by rw [hfr, hm]) (by rw [hfr, hrun])
    (by rw [hfr, hrec]) hh).1 u ((sendStop_selected y).trans (hsel.trans hu))
  rw [hplaced, State.readRecord_congr hfr]
  exact placeForward_rc_congr ((sendStop_rc y).trans k3) ((sendStop_selected y).trans hsel) _ _ _

/-- Its conditions go to the completion of a command. -/
theorem forwardEvent_recordCut (hy : y = s.setTlc y.tlc) (hoc : s.oc = .active a) (hp : s.hw.resetPending = false)
    (ho : o = .endOfMedium ∨ o = .transportFault) : recordCut a o s (endInStop o (forwardEvent y)) := by
  intro rec h hm hrun hrec hh r hr
  obtain ⟨-, -, hoc', hfr, -⟩ := dropGateAndReport_sendStop_blocks hy
  have hopen := (readerAtEvent_of_open (s := dropGateAndReport (sendStop y)) (o := rec) (h := h) (by rw [hfr, hm])
    (by rw [hfr, hrun]) (by rw [hfr, hrec]) hh).2 a (hoc'.trans hoc)
  obtain ⟨hcmp, -⟩ := (forwardEvent_reported hy).posts (o := o) hp hopen
  have hreport : closeReportOf (dropGateAndReport (sendStop y)) rec h .none = closeReportOf s rec h .none := by
    simp only [closeReportOf, State.badRecord_congr hfr]
  rw [← CompletionUnit.place_injective (hcmp.symm.trans hr), hreport]
  refine carriesClose_postedRecord (creditClose_cmd a _) ?_ rfl rfl ?_
  · rw [forwardEvent, readerAtEvent_of_parse (reverse := false) (by rw [hfr, hm])]
    exact (eventRecord_fr false _).2
  · rcases ho with rfl | rfl <;> rfl

/-! ### The rows -/

/-- What the stop of one link gives, the other has: the units' states, MOVING, the request and the stop timer agree. -/
theorem stops_of_link (hsel : y.tlc.selected = s.tlc.selected) (hreq : y.tlc.request = s.tlc.request)
    (htimer : y.tlc.stopTimer = s.tlc.stopTimer)
    (hu : ∀ v, (y.link v).state = (s.link v).state ∧ (y.link v).lines.moving = (s.link v).lines.moving) (h : stops y t) :
    stops s t := by
  obtain ⟨h1, h2⟩ := h
  refine ⟨h1, fun v hv => ?_⟩
  obtain ⟨k1, k2, k3⟩ := h2 v (hsel.trans hv)
  obtain ⟨e1, e2⟩ := hu v
  unfold State.underWay at k1 k2 ⊢
  rw [e1, e2] at k1
  rw [e1, e2] at k2
  rw [e1, hreq, htimer] at k3
  exact ⟨k1, k2, k3⟩

theorem stops_of_setLink {l : UnitLink} (hst : l.state = (s.link u).state) (hm : l.lines.moving = (s.link u).lines.moving)
    (h : stops (s.setLink u l) t) : stops s t := by
  refine stops_of_link (y := s.setLink u l) rfl rfl rfl (fun v => ?_) h
  by_cases hv : v = u
  · subst hv; rw [State.link_setLink]; exact ⟨hst, hm⟩
  · rw [State.link_setLink_other s l hv]; exact ⟨rfl, rfl⟩

theorem State.travelsReverse_iff (s : State) (u : UnitId) :
    s.travelsReverse u = true ↔
      (s.link u).state = .runningReverse ∨ ((s.link u).state = .ramping ∧ s.tlc.request = some .reverse) := by
  unfold State.travelsReverse
  split <;> simp_all

theorem State.travelsForward_iff (s : State) (u : UnitId) :
    s.travelsForward u = true ↔
      (s.link u).state = .runningForward ∨
        ((s.link u).state = .ramping ∧ (s.tlc.request = some .forward ∨ s.tlc.request = some .forwardWrite)) := by
  unfold State.travelsForward
  split <;> simp_all

theorem State.atSpeedNow_iff (s : State) (u : UnitId) :
    s.atSpeedNow u = true ↔ (s.link u).state = .runningForward ∨ (s.link u).state = .runningReverse := by
  simp [State.atSpeedNow]

theorem State.travelsReverse_setLine (s : State) (u : UnitId) (k : Line) (b : Bool) :
    (s.setLine u k b).travelsReverse u = s.travelsReverse u := by
  unfold State.travelsReverse; rw [State.link_setLine]; rfl

theorem State.travelsForward_setLine (s : State) (u : UnitId) (k : Line) (b : Bool) :
    (s.setLine u k b).travelsForward u = s.travelsForward u := by
  unfold State.travelsForward; rw [State.link_setLine]; rfl

theorem State.atSpeedNow_setLine (s : State) (u : UnitId) (k : Line) (b : Bool) :
    (s.setLine u k b).atSpeedNow u = s.atSpeedNow u := by
  unfold State.atSpeedNow; rw [State.link_setLine]

theorem exec_loadPointRise (hund : s.undisturbed = true) (hs : s.tlc.selected = some u) (hp : (s.link u).lines.present = true)
    (hl : (s.link u).lines.loadPoint = false) (ht : s.travelsReverse u = true) :
    exec (.loadPointRise u) s =
      .next (endInStop .loadPoint (takeLoadPoint u (readerAtEvent (sendStop (s.setLine u .loadPoint true))))) := by
  refine congrArg Host.Outcome.next ((lineEvent_of_present (k := .loadPoint) (b := true) hund hl hp).trans ?_)
  exact if_pos ⟨hs, by rw [State.travelsReverse_setLine]; exact ht⟩

theorem exec_endRise (hund : s.undisturbed = true) (hs : s.tlc.selected = some u) (hp : (s.link u).lines.present = true)
    (hl : (s.link u).lines.endLine = false) (ht : s.travelsForward u = true) :
    exec (.endRise u) s = .next (endInStop .endOfMedium (forwardEvent (s.setLine u .endLine true))) := by
  refine congrArg Host.Outcome.next ((lineEvent_of_present (k := .endLine) (b := true) hund hl hp).trans ?_)
  exact if_pos ⟨hs, by rw [State.travelsForward_setLine]; exact ht⟩

theorem exec_atSpeedFall (hund : s.undisturbed = true) (hs : s.tlc.selected = some u) (hp : (s.link u).lines.present = true)
    (hl : (s.link u).lines.atSpeed = true) (ht : s.atSpeedNow u = true) :
    exec (.atSpeedFall u) s = .next (endInStop .transportFault (forwardEvent (s.setLine u .atSpeed false))) := by
  refine congrArg Host.Outcome.next ((lineEvent_of_present (k := .atSpeed) (b := false) hund hl hp).trans ?_)
  exact if_pos ⟨hs, by rw [State.atSpeedNow_setLine]; exact ht⟩

theorem exec_movingFall (hund : s.undisturbed = true) (hs : s.tlc.selected = some u) (hp : (s.link u).lines.present = true)
    (hl : (s.link u).lines.moving = true) (ht : s.atSpeedNow u = true) :
    exec (.movingFall u) s = .next (endInStop .transportFault (forwardEvent (s.setLine u .moving false))) := by
  refine congrArg Host.Outcome.next ((lineEvent_of_present (k := .moving) (b := false) hund hl hp).trans ?_)
  have hst : ((s.setLine u .moving false).link u).state ≠ .stopping := by
    rw [State.link_setLine]
    rcases (s.atSpeedNow_iff u).mp ht with e | e <;> simp [e]
  unfold reactMovingFall
  rw [if_pos (show (s.setLine u .moving false).tlc.selected = some u from hs), if_neg hst, State.atSpeedNow_setLine, ht]
  rfl

/-! ### The frame in progress (R95, log 21) -/

theorem handOpenFrame_undisturbed : (handOpenFrame s).undisturbed = s.undisturbed := by
  rcases handOpenFrame_cases s with e | ⟨x, r, rev, -, -, -, -, e⟩ <;> rw [e]
  rfl

/-- An event whose row, with nothing in its way, is a function of the state once the open frame has been handed on. -/
theorem endsRunWithOpenFrame_of {i : Instr} {f : State → State} (hrow : exec i s = .next (f s))
    (hrow' : exec i (handOpenFrame s) = .next (f (handOpenFrame s))) (hf : f (handOpenFrame s) = f s) :
    endsRunWithOpenFrame i s := by
  intro x r rev hm hx hh hr
  have e : handOpenFrame s =
      { s with
        fr :=
          { s.fr with
            frame := some { x with handed := true }
            run := some { r.join (selectFrame x) with lengthExcess := r.lengthExcess || s.passesCount r } } } := by
    simp only [handOpenFrame, hx, hr, hm, hh]
    rfl
  rw [← hf, ← hrow'] at hrow
  rw [hrow, e]
  unfold State.passesCount
  cases s.oc <;> rfl

theorem setLine_handOpenFrame (k : Line) (b : Bool) :
    (handOpenFrame s).setLine u k b = handOpenFrame (s.setLine u k b) :=
  handOpenFrame_comm (g := fun s => s.setLine u k b) (fun _ => rfl) rfl rfl

theorem sendStop_handOpenFrame : sendStop (handOpenFrame s) = handOpenFrame (sendStop s) :=
  handOpenFrame_comm sendStop_setFr (sendStop_fr s) (sendStop_oc s)

theorem dropGateAndReport_handOpenFrame : dropGateAndReport (handOpenFrame s) = handOpenFrame (dropGateAndReport s) := by
  obtain ⟨-, -, hoc, -, -, hfr, -⟩ := dropGateAndReport_blocks s
  exact handOpenFrame_comm dropGateAndReport_setFr hfr hoc

theorem forwardEvent_handOpenFrame (k : Line) (b : Bool) :
    forwardEvent ((handOpenFrame s).setLine u k b) = forwardEvent (s.setLine u k b) := by
  rw [setLine_handOpenFrame, forwardEvent, sendStop_handOpenFrame, dropGateAndReport_handOpenFrame, readerAtEvent_handOpenFrame]
  rfl

theorem handOpenFrame_tlc : (handOpenFrame s).tlc = s.tlc := (handOpenFrame_same s).2.2.2.2.1

end Event

/-! ### LOAD POINT in reverse, loss of permit, the timers (R28, R39, R74) -/

section Others
variable {s y t : State} {a : Active} {o : CmdOutcome} {u : UnitId}

/-- LOAD POINT before the OC hears of it: STOP, the reader told, the catalogue anchored. -/
def loadPointEvent (u : UnitId) (y : State) : State := takeLoadPoint u (readerAtEvent (sendStop y))

theorem loadPointEvent_reported (hy : y = s.setTlc y.tlc) : Reported s y (loadPointEvent u y) := by
  have h : Reported s y (readerAtEvent (sendStop y)) := by
    refine Reported.of_readerAtEvent ?_ ?_ ?_ ?_ ?_ rfl <;>
      simp only [sendStop_hw, sendStop_cu, sendStop_oc, sendStop_bu, sendStop_cmp] <;> (rw [hy]; rfl)
  exact ⟨h.hw, h.cu, h.cmp, h.bu, h.tlc, h.oc⟩

/-- The catalogue is anchored at position 0; a record open in reverse is lost to fragments, and nothing is placed. -/
theorem loadPointEvent_facts (hy : y = s.setTlc y.tlc) :
    ((loadPointEvent u y).catalogue u).state = .anchored ∧ ((loadPointEvent u y).catalogue u).position = 0 ∧
      (s.fr.mode = .parse true → s.fr.run = none →
        (loadPointEvent u y).fr.record = none ∧ (loadPointEvent u y).rc.nextOrdinals = s.rc.nextOrdinals ∧
          ((loadPointEvent u y).catalogue u).entries = (s.catalogue u).entries.drop (s.catalogue u).position) ∧
      (s.fr.mode = .parse true → s.fr.run = none → s.fr.record.isSome = true → s.inForce = true →
        (loadPointEvent u y).fr.account.fragments = true) := by
  have hcat : (loadPointEvent u y).catalogue u = ((readerAtEvent (sendStop y)).catalogue u).atLoadPoint :=
    State.catalogue_setCatalogue _ u _
  obtain ⟨-, -, k3, k4, k5⟩ := setTlc_blocks hy
  have hfr : (sendStop y).fr = s.fr := (sendStop_fr y).trans k5
  have hrc : (sendStop y).rc = s.rc := (sendStop_rc y).trans k3
  have hin : (sendStop y).inForce = s.inForce := by simp only [State.inForce, State.active, (sendStop_oc y).trans k4]
  rw [hcat]
  refine ⟨rfl, rfl, fun hm hrun => ?_, fun hm hrun hrec hf => ?_⟩
  · obtain ⟨h1, h2, -⟩ := readerAtEvent_reverse (s := sendStop y) (by rw [hfr, hm]) (by rw [hfr, hrun])
    refine ⟨h2, ?_, ?_⟩
    · exact (congrArg RecordCatalogue.nextOrdinals h1).trans (by rw [hrc])
    · rw [State.catalogue, h1, hrc]; rfl
  · exact (readerAtEvent_reverse (s := sendStop y) (by rw [hfr, hm]) (by rw [hfr, hrun])).2.2 (by rw [hfr, hrec]) (by rw [hin, hf])

theorem loadPointEvent_handOpenFrame :
    loadPointEvent u ((handOpenFrame s).setLine u .loadPoint true) = loadPointEvent u (s.setLine u .loadPoint true) := by
  rw [setLine_handOpenFrame, loadPointEvent, sendStop_handOpenFrame, readerAtEvent_handOpenFrame]
  rfl

/-- Loss of permit and the echo deadline before the OC hears of them: the gate dropped, then STOP. -/
def gateEvent (y : State) : State := sendStop (dropGateAndReport y)

theorem gateEvent_reported (hy : y = s.setTlc y.tlc) : Reported s y (gateEvent y) := by
  obtain ⟨h1, h2, h3, -, h5, -, h8, h9, -⟩ := dropGateAndReport_blocks y
  refine ⟨?_, ?_, ?_, fun _ => ?_, sendStop_tlc_congr h5, .inl ?_⟩ <;>
    simp only [gateEvent, sendStop_hw, sendStop_cu, sendStop_oc, sendStop_bu, sendStop_cmp, h1, h2, h3, h8, h9] <;> (rw [hy]; rfl)

theorem gateEvent_gate (y : State) : (gateEvent y).fw.gate = false := by
  rw [gateEvent, sendStop_fw]; exact (dropGateAndReport_blocks y).2.2.2.2.2.2.2.2

theorem gateEvent_cuts (hy : y = s.setTlc y.tlc) (hsel : y.tlc.selected = s.tlc.selected) (hoc : s.oc = .active a)
    {c : CopyAccount} (hc : s.cutsCopy c) :
    (gateEvent y).fr.nothingToBreak ∧
      (gateEvent y).rc = (placeForward a.cmd.unit (writtenRecord a c .none) c.passed s).rc ∧
      (gateEvent y).fw.account = some { c with ended := .unsealed } ∧ (gateEvent y).vu = s.vu.endOfWrite := by
  obtain ⟨k1, k2, k3, k4, k5⟩ := setTlc_blocks hy
  obtain ⟨h1, h2, h3⟩ := dropGateAndReport_cuts k1 k2 k3 hsel k4 hoc hc
  have hfr : (dropGateAndReport y).fr = s.fr := (dropGateAndReport_blocks y).2.2.2.2.2.1.trans k5
  simp only [gateEvent, sendStop_fr, sendStop_rc, sendStop_fw, sendStop_vu]
  exact ⟨.inr fun rev h => by simp [hfr, hc.2.1] at h, h1, h2, h3⟩

theorem exec_echoDeadline (hund : s.undisturbed = true) (hw : s.fw.watch.isSome = true)
    (hoc : (∃ a, s.oc = .active a) ∨ ∃ f, s.oc = .finishing f) :
    exec .echoDeadline s = .next (endInStop .writeFault (gateEvent s)) := by
  refine congrArg Host.Outcome.next ((event_of_undisturbed s takeEchoDeadline hund).trans ?_)
  unfold takeEchoDeadline
  rw [if_pos hw]
  rcases hoc with ⟨a, h⟩ | ⟨f, h⟩ <;> simp only [h] <;> rfl

theorem exec_echoDeadline_stopping (hund : s.undisturbed = true) (hw : s.fw.watch.isSome = true) (hoc : s.oc = .stopping) :
    exec .echoDeadline s = .next (dropGateAndReport s) := by
  refine congrArg Host.Outcome.next ((event_of_undisturbed s takeEchoDeadline hund).trans ?_)
  simp only [takeEchoDeadline, hw, if_true, hoc]

/-- The unit's entry once WRITE PERMIT has fallen, its cause raised on a ready unit (R39). -/
def permitLost (l : UnitLink) : UnitLink :=
  { l with
    lines := l.lines.set .writePermit false
    causes := { l.causes with permitChanged := l.causes.permitChanged || (l.lines.set .writePermit false).ready } }

theorem exec_writePermitFall (hund : s.undisturbed = true) (hs : s.tlc.selected = some u) (hp : (s.link u).lines.present = true)
    (hw : (s.link u).lines.writePermit = true) (hg : s.fw.gate = true) :
    exec (.writePermitChange u false) s = .next (losePermit (s.setLink u (permitLost (s.link u)))) := by
  refine congrArg Host.Outcome.next ((lineEvent_of_present (k := .writePermit) (b := false) hund hw hp).trans ?_)
  have hraise := raisePermitChanged (s := s) (u := u) { s.link u with lines := (s.link u).lines.set .writePermit false }
  unfold reactPermit
  dsimp only
  rw [State.setLine, hraise]
  exact if_pos ⟨rfl, hs, hg⟩

theorem losePermit_of_underWay {z : State} (hoc : (∃ a, z.oc = .active a) ∨ ∃ f, z.oc = .finishing f) :
    losePermit z = endInStop .writeFault (gateEvent z) := by
  have h : (dropGateAndReport z).oc = z.oc := (dropGateAndReport_blocks z).2.2.1
  unfold losePermit
  dsimp only
  rw [h]
  rcases hoc with ⟨a, h⟩ | ⟨f, h⟩ <;> rw [h] <;> rfl

theorem losePermit_of_stopping {z : State} (hoc : z.oc = .stopping) : losePermit z = dropGateAndReport z := by
  have h : (dropGateAndReport z).oc = z.oc := (dropGateAndReport_blocks z).2.2.1
  unfold losePermit
  dsimp only
  rw [h, hoc]

/-- STOP at a limit of the TLC, its timer off. -/
theorem sendStop_reported (hy : y = s.setTlc y.tlc) : Reported s y (sendStop y) := by
  refine ⟨?_, ?_, ?_, fun _ => ?_, rfl, .inl ?_⟩ <;>
    simp only [sendStop_hw, sendStop_cu, sendStop_oc, sendStop_bu, sendStop_cmp] <;> (rw [hy]; rfl)

theorem sendStop_timers (s : State) :
    (s.tlc.atSpeedTimer = false → (sendStop s).tlc.atSpeedTimer = false) ∧
      (s.tlc.acceptanceTimer = false → (sendStop s).tlc.acceptanceTimer = false) := by
  rcases sendStop_cases s with e | ⟨u, -, e⟩ <;> rw [e]
  · exact ⟨id, id⟩
  · exact ⟨fun _ => rfl, fun _ => rfl⟩

/-- In STOPPING a report leaves the stop as it is. -/
theorem stops_of_stopping (hs : s.tlc.selected = some u) (hst : (s.link u).state = .stopping) (hoc : t.oc = .stopping)
    (hsel : t.tlc.selected = some u) (hl : (t.link u).state = .stopping) (hreq : t.tlc.request = s.tlc.request)
    (htimer : t.tlc.stopTimer = s.tlc.stopTimer) : stops s t := by
  have hnot : ¬ s.underWay u := by simp [State.underWay, hst]
  refine ⟨.inl hoc, fun v hv => ?_⟩
  cases hs.symm.trans hv
  exact ⟨fun h => absurd h hnot, fun h => absurd h hnot, fun _ => ⟨hoc, hsel, hl, hreq, htimer⟩⟩

end Others

/-! ### Each report, to its end -/

section Ends
variable {s y x : State} {o : CmdOutcome} {i : Instr} {u : UnitId} {always : State → Prop} {placed cut : Active → State → Prop}

/-- The row ends an operation, or the reset in its place, or FINISH, in a stop. -/
def EndsInStop (i : Instr) (o : CmdOutcome) (s : State) (always : State → Prop) (placed cut : Active → State → Prop) : Prop :=
  (∀ a, s.oc = .active a → s.hw.resetPending = false →
    ∃ t, exec i s = .next t ∧ endsInStop a o s t ∧ always t ∧ cut a t) ∧
  (∀ a, s.oc = .active a → s.hw.resetPending = true →
    ∃ t, exec i s = .next t ∧ resetTaken s t ∧ always t ∧ placed a t) ∧
  (∀ f, s.oc = .finishing f →
    ∃ t, exec i s = .next t ∧ stops s t ∧ t.cmp = s.cmp ∧ t.cu = s.cu ∧ t.bu = s.bu ∧ always t)

/-- A command or its FINISH is under way. -/
def State.operating (s : State) : Prop := (∃ a, s.oc = .active a) ∨ ∃ f, s.oc = .finishing f

theorem EndsInStop.of_reported (hrow : s.operating → exec i s = .next (endInStop o x)) (hrep : Reported s y x)
    (hstop : ∀ t, stops y t → stops s t) (halways : s.operating → always (endInStop o x))
    (hplaced : ∀ a, s.oc = .active a → placed a (endInStop o x))
    (hcut : ∀ a, s.oc = .active a → s.hw.resetPending = false → cut a (endInStop o x)) : EndsInStop i o s always placed cut := by
  obtain ⟨hactive, hreset, hfinish⟩ := hrep.ends (o := o)
  refine ⟨fun a hoc hpend => ?_, fun a hoc hpend => ?_, fun f hoc => ?_⟩
  · obtain ⟨h1, h2⟩ := hactive a hoc hpend
    exact ⟨_, hrow (.inl ⟨a, hoc⟩), ⟨h1, hstop _ h2⟩, halways (.inl ⟨a, hoc⟩), hcut a hoc hpend⟩
  · obtain ⟨h1, h2, h3⟩ := hreset a hoc hpend
    exact ⟨_, hrow (.inl ⟨a, hoc⟩), ⟨h1, hstop _ h2, h3⟩, halways (.inl ⟨a, hoc⟩), hplaced a hoc⟩
  · obtain ⟨h1, h2, h3, h4⟩ := hfinish f hoc
    exact ⟨_, hrow (.inr ⟨f, hoc⟩), hstop _ h1, h2, h3, h4, halways (.inr ⟨f, hoc⟩)⟩

/-- END and loss of speed at a line other than MOVING. -/
theorem EndsInStop.of_forwardEvent {k : Line} {b : Bool} (hund : s.undisturbed = true)
    (ho : o = .endOfMedium ∨ o = .transportFault)
    (hk : ((s.link u).lines.set k b).moving = (s.link u).lines.moving)
    (hrow : exec i s = .next (endInStop o (forwardEvent (s.setLine u k b)))) :
    EndsInStop i o s (fun t => t.fw.gate = false ∧ recordPlaced s t) (copyPlaced · s ·)
      (fun a t => copyCut a s t ∧ recordCut a o s t) := by
  have hy : s.setLine u k b = s.setTlc (s.setLine u k b).tlc := rfl
  have hrep := forwardEvent_reported hy
  refine .of_reported (fun _ => hrow) hrep
    (fun t ht => stops_of_setLink (l := { s.link u with lines := (s.link u).lines.set k b }) rfl hk ht)
    (fun hoc => ⟨(hrep.keeps hund hoc).2.1 (forwardEvent_gate hy), forwardEvent_recordPlaced hy rfl hund hoc⟩)
    (fun a hoc => hrep.copyPlaced hund hoc fun c hc => ?_)
    (fun a hoc hpend => ⟨hrep.copyCut hund hoc hpend fun c hc => forwardEvent_cuts hy rfl hoc hc,
      forwardEvent_recordCut hy hoc hpend ho⟩)
  obtain ⟨h1, h2, -⟩ := forwardEvent_cuts hy rfl hoc hc
  exact ⟨h1, h2⟩

/-- A WRITE FAULT. -/
theorem EndsInStop.of_gateEvent (hund : s.undisturbed = true) (hy : y = s.setTlc y.tlc)
    (hsel : y.tlc.selected = s.tlc.selected) (hstop : ∀ t, stops y t → stops s t)
    (hrow : s.operating → exec i s = .next (endInStop .writeFault (gateEvent y))) :
    EndsInStop i .writeFault s (fun t => t.fw.gate = false) (copyPlaced · s ·) (copyCut · s ·) := by
  have hrep := gateEvent_reported hy
  refine .of_reported hrow hrep hstop (fun hoc => (hrep.keeps hund hoc).2.1 (gateEvent_gate y))
    (fun a hoc => hrep.copyPlaced hund hoc fun c hc => ?_)
    (fun a hoc hpend => hrep.copyCut hund hoc hpend fun c hc => gateEvent_cuts hy hsel hoc hc)
  obtain ⟨h1, h2, -⟩ := gateEvent_cuts hy hsel hoc hc
  exact ⟨h1, h2⟩

/-- LOAD POINT in reverse (R28). -/
theorem endsInStop_loadPoint (hund : s.undisturbed = true) (hs : s.tlc.selected = some u) (hp : (s.link u).lines.present = true)
    (hl : (s.link u).lines.loadPoint = false) (ht : s.travelsReverse u = true) :
    EndsInStop (.loadPointRise u) .loadPoint s
      (fun t =>
        (t.catalogue u).state = .anchored ∧ (t.catalogue u).position = 0 ∧
          (s.fr.mode = .parse true → s.fr.run = none →
            t.fr.record = none ∧ t.rc.nextOrdinals = s.rc.nextOrdinals ∧
              (t.catalogue u).entries = (s.catalogue u).entries.drop (s.catalogue u).position))
      (fun _ _ => True)
      (fun a t =>
        s.fr.mode = .parse true → s.fr.run = none → s.fr.record.isSome = true → a.cmd.code.readClass = true →
          ∀ r, t.cmp = s.cmp.place r → r.qualifiers.fragments = true) := by
  let y := s.setLine u .loadPoint true
  have hrep := loadPointEvent_reported (s := s) (u := u) (y := y) rfl
  obtain ⟨hstate, hposition, hplace, hfragments⟩ := loadPointEvent_facts (s := s) (u := u) (y := y) rfl
  have hquiet : (loadPointEvent u y).fr.nothingToBreak := readerAtEvent_nothingToBreak (sendStop y)
  refine .of_reported (fun _ => exec_loadPointRise hund hs hp hl ht) hrep
    (fun t ht => stops_of_setLink (l := { s.link u with lines := (s.link u).lines.set .loadPoint true }) rfl rfl ht)
    (fun hoc => ?_) (fun _ _ => trivial) (fun a hoc hpend hm hrun hrec hread r hr => ?_)
  · obtain ⟨keepsRc, -, keepsRecord, -⟩ := hrep.keeps (o := .loadPoint) hund hoc
    have hrc := keepsRc hquiet
    refine ⟨?_, ?_, fun hm hrun => ?_⟩
    · exact (congrArg (fun rc : RecordCatalogue => (rc.catalogues.get u).state) hrc).trans hstate
    · exact (congrArg (fun rc : RecordCatalogue => (rc.catalogues.get u).position) hrc).trans hposition
    · obtain ⟨h1, h2, h3⟩ := hplace hm hrun
      exact ⟨keepsRecord h1, (congrArg _ hrc).trans h2,
        (congrArg (fun rc : RecordCatalogue => (rc.catalogues.get u).entries) hrc).trans h3⟩
  · obtain ⟨b, hb, hcmd, -⟩ := hrep.active hoc
    obtain ⟨hcmp, -⟩ := hrep.posts (o := .loadPoint) hpend hb
    obtain ⟨-, stale, e⟩ := postedRecord_eq b .loadPoint (loadPointEvent u y)
    have hf := hfragments hm hrun hrec (by simp [State.inForce, State.active, hoc])
    rw [← CompletionUnit.place_injective (hcmp.symm.trans hr), e]
    simp only [completionOf, hcmd, hread, Active.withOpenRecord_cmd, hf, Bool.and_self]

/-- The fall of MOVING at speed: the stop is complete at once (R30). -/
theorem movingFall_ends (hund : s.undisturbed = true) (hs : s.tlc.selected = some u) (hp : (s.link u).lines.present = true)
    (hl : (s.link u).lines.moving = true) (hu : (s.link u).state = .runningForward ∨ (s.link u).state = .runningReverse) :
    let atRest (t : State) : Prop :=
      t.oc = .idle ∧ t.tlc.selected = none ∧ (t.link u).state = .idle ∧ t.tlc.stopTimer = false ∧ t.fw.gate = false ∧
        recordPlaced s t
    (∀ a, s.oc = .active a → s.hw.resetPending = false →
      ∃ t, exec (.movingFall u) s = .next t ∧ posted a .transportFault s t ∧ atRest t ∧
        copyCut a s t ∧ recordCut a .transportFault s t) ∧
    (∀ a, s.oc = .active a → s.hw.resetPending = true →
      ∃ t, exec (.movingFall u) s = .next t ∧ resetClears s t ∧ t.timer = .stopped ∧ atRest t ∧ copyPlaced a s t) ∧
    (∀ f, s.oc = .finishing f →
      ∃ t, exec (.movingFall u) s = .next t ∧ t.cmp = s.cmp ∧ t.cu = s.cu ∧ t.bu = s.bu ∧ atRest t) := by
  intro atRest
  have hy : s.setLine u .moving false = s.setTlc (s.setLine u .moving false).tlc := rfl
  have hrep := forwardEvent_reported hy
  have hunder : (s.setLine u .moving false).underWay u := by
    unfold State.underWay
    rw [State.link_setLine]
    exact .inr hu
  have hmoving : ((s.setLine u .moving false).link u).lines.moving = false := by rw [State.link_setLine]; rfl
  have hrow := exec_movingFall hund hs hp hl ((s.atSpeedNow_iff u).mpr hu)
  obtain ⟨hactive, hreset, hfinish⟩ := hrep.ends (o := .transportFault)
  have rest (hoc : s.operating) (h : stops (s.setLine u .moving false)
      (endInStop .transportFault (forwardEvent (s.setLine u .moving false)))) :
      atRest (endInStop .transportFault (forwardEvent (s.setLine u .moving false))) := by
    obtain ⟨hstop, hunit⟩ := h
    obtain ⟨hidle, hstate, -, htimer⟩ := (hunit u hs).2.1 hunder hmoving
    refine ⟨hidle, ?_, hstate, htimer, (hrep.keeps hund hoc).2.1 (forwardEvent_gate hy),
      forwardEvent_recordPlaced hy rfl hund hoc⟩
    rcases hstop with e | ⟨-, e⟩
    · simp [hidle] at e
    · exact e
  refine ⟨fun a hoc hpend => ?_, fun a hoc hpend => ?_, fun f hoc => ?_⟩
  · obtain ⟨h1, h2⟩ := hactive a hoc hpend
    exact ⟨_, hrow, h1, rest (.inl ⟨a, hoc⟩) h2, hrep.copyCut hund hoc hpend fun c hc => forwardEvent_cuts hy rfl hoc hc,
      forwardEvent_recordCut hy hoc hpend (.inr rfl)⟩
  · obtain ⟨h1, h2, h3⟩ := hreset a hoc hpend
    refine ⟨_, hrow, h1, h3, rest (.inl ⟨a, hoc⟩) h2, hrep.copyPlaced hund hoc fun c hc => ?_⟩
    obtain ⟨k1, k2, -⟩ := forwardEvent_cuts hy rfl hoc hc
    exact ⟨k1, k2⟩
  · obtain ⟨h1, h2, h3, h4⟩ := hfinish f hoc
    exact ⟨_, hrow, h2, h3, h4, rest (.inr ⟨f, hoc⟩) h1⟩

/-- A limit of the TLC, its timer off (R25, R31). -/
theorem timeout_ends {tlc : TransportLink} {a : Active} (hund : s.undisturbed = true) (hoc : s.oc = .active a)
    (hrow : exec i s = .next (endInStop .transportFault (sendStop (s.setTlc tlc))))
    (hstop : ∀ t, stops (s.setTlc tlc) t → stops s t) :
    (s.hw.resetPending = false →
      ∃ t, exec i s = .next t ∧ endsInStop a .transportFault s t ∧
        ((tlc.atSpeedTimer = false → t.tlc.atSpeedTimer = false) ∧
          (tlc.acceptanceTimer = false → t.tlc.acceptanceTimer = false)) ∧ carriesOpenRecord a s t) ∧
    (s.hw.resetPending = true →
      ∃ t, exec i s = .next t ∧ resetTaken s t ∧
        (tlc.atSpeedTimer = false → t.tlc.atSpeedTimer = false) ∧
          (tlc.acceptanceTimer = false → t.tlc.acceptanceTimer = false)) := by
  have hrep := sendStop_reported (s := s) (y := s.setTlc tlc) rfl
  obtain ⟨-, -, -, k1, k2⟩ := hrep.keeps (o := .transportFault) hund (.inl ⟨a, hoc⟩)
  obtain ⟨t1, t2⟩ := sendStop_timers (s.setTlc tlc)
  obtain ⟨hactive, hreset, -⟩ := hrep.ends (o := .transportFault)
  refine ⟨fun hpend => ?_, fun hpend => ?_⟩
  · obtain ⟨h1, h2⟩ := hactive a hoc hpend
    refine ⟨_, hrow, ⟨h1, hstop _ h2⟩, ⟨fun h => k1 (t1 h), fun h => k2 (t2 h)⟩,
      carriesOpenRecord_of (b := a) (hrep.posts hpend ((sendStop_oc _).trans hoc)).1 ?_⟩
    rw [sendStop_fr]; rfl
  · obtain ⟨h1, h2, h3⟩ := hreset a hoc hpend
    exact ⟨_, hrow, ⟨h1, hstop _ h2, h3⟩, fun h => k1 (t1 h), fun h => k2 (t2 h)⟩

/-- In STOPPING the lines are followed, and a WRITE FAULT drops the gate alone. -/
theorem reports_in_stopping (hund : s.undisturbed = true) (hp : (s.link u).lines.present = true)
    (hst : (s.link u).state = .stopping) :
    ((s.link u).lines.loadPoint = false → exec (.loadPointRise u) s = .next (s.setLine u .loadPoint true)) ∧
    ((s.link u).lines.endLine = false → exec (.endRise u) s = .next (s.setLine u .endLine true)) ∧
    ((s.link u).lines.atSpeed = true → exec (.atSpeedFall u) s = .next (s.setLine u .atSpeed false)) := by
  have still (k : Line) (b : Bool) : ((s.setLine u k b).link u).state = .stopping := by rw [State.link_setLine]; exact hst
  refine ⟨fun hl => congrArg Host.Outcome.next ?_, fun hl => congrArg Host.Outcome.next ?_, fun hl => congrArg Host.Outcome.next ?_⟩
  · refine (lineEvent_of_present (k := .loadPoint) (b := true) hund hl hp).trans (if_neg fun h => ?_)
    have := (State.travelsReverse_iff _ u).mp h.2
    simp [still] at this
  · refine (lineEvent_of_present (k := .endLine) (b := true) hund hl hp).trans (if_neg fun h => ?_)
    have := (State.travelsForward_iff _ u).mp h.2
    simp [still] at this
  · refine (lineEvent_of_present (k := .atSpeed) (b := false) hund hl hp).trans (if_neg fun h => ?_)
    have := (State.atSpeedNow_iff _ u).mp h.2
    simp [still] at this

/-- The gate dropped in STOPPING: the stop goes on, and nothing is posted. -/
theorem dropGateAndReport_in_stopping (hs : s.tlc.selected = some u) (hst : (s.link u).state = .stopping) (hoc : s.oc = .stopping)
    {l : UnitLink} (hl : l.state = .stopping) :
    stops s (dropGateAndReport (s.setLink u l)) ∧ (dropGateAndReport (s.setLink u l)).cmp = s.cmp ∧
      (dropGateAndReport (s.setLink u l)).cu = s.cu ∧ (dropGateAndReport (s.setLink u l)).bu = s.bu ∧
      (dropGateAndReport (s.setLink u l)).fw.gate = false := by
  obtain ⟨-, k2, k3, -, k5, -, k8, k9, hg⟩ := dropGateAndReport_blocks (s.setLink u l)
  refine ⟨stops_of_stopping hs hst (k3.trans hoc) ((congrArg TransportLink.selected k5).trans hs) ?_
    (congrArg TransportLink.request k5 :) (congrArg TransportLink.stopTimer k5 :), k9, k2, k8, hg⟩
  refine (congrArg (fun t : TransportLink => (t.units.get u).state) k5).trans ?_
  exact (congrArg UnitLink.state (State.link_setLink s u l)).trans hl

/-- The rows that end a run take the frame still open with it. -/
theorem reports_end_the_run (hund : s.undisturbed = true) (hs : s.tlc.selected = some u) (hp : (s.link u).lines.present = true) :
    ((s.link u).lines.loadPoint = false → s.travelsReverse u = true → endsRunWithOpenFrame (.loadPointRise u) s) ∧
    ((s.link u).lines.endLine = false → s.travelsForward u = true → endsRunWithOpenFrame (.endRise u) s) ∧
    ((s.link u).lines.atSpeed = true → s.atSpeedNow u = true → endsRunWithOpenFrame (.atSpeedFall u) s) ∧
    ((s.link u).lines.moving = true → s.atSpeedNow u = true → endsRunWithOpenFrame (.movingFall u) s) := by
  have hund' : (handOpenFrame s).undisturbed = true := handOpenFrame_undisturbed.trans hund
  have hlink' : (handOpenFrame s).link u = s.link u := by simp only [State.link, handOpenFrame_tlc]
  have hs' : (handOpenFrame s).tlc.selected = some u := by rw [handOpenFrame_tlc, hs]
  have hp' : ((handOpenFrame s).link u).lines.present = true := by rw [hlink', hp]
  have hreverse : (handOpenFrame s).travelsReverse u = s.travelsReverse u := by simp only [State.travelsReverse, hlink', handOpenFrame_tlc]
  have hforward : (handOpenFrame s).travelsForward u = s.travelsForward u := by simp only [State.travelsForward, hlink', handOpenFrame_tlc]
  have hspeed : (handOpenFrame s).atSpeedNow u = s.atSpeedNow u := by simp only [State.atSpeedNow, hlink']
  refine ⟨fun hl hu => ?_, fun hl hu => ?_, fun hl hu => ?_, fun hl hu => ?_⟩
  · exact endsRunWithOpenFrame_of (f := fun s => endInStop .loadPoint (loadPointEvent u (s.setLine u .loadPoint true)))
      (exec_loadPointRise hund hs hp hl hu) (exec_loadPointRise hund' hs' hp' (by rw [hlink', hl]) (hreverse.trans hu))
      (congrArg _ loadPointEvent_handOpenFrame)
  · exact endsRunWithOpenFrame_of (f := fun s => endInStop .endOfMedium (forwardEvent (s.setLine u .endLine true)))
      (exec_endRise hund hs hp hl hu) (exec_endRise hund' hs' hp' (by rw [hlink', hl]) (hforward.trans hu))
      (congrArg _ (forwardEvent_handOpenFrame _ _))
  · exact endsRunWithOpenFrame_of (f := fun s => endInStop .transportFault (forwardEvent (s.setLine u .atSpeed false)))
      (exec_atSpeedFall hund hs hp hl hu) (exec_atSpeedFall hund' hs' hp' (by rw [hlink', hl]) (hspeed.trans hu))
      (congrArg _ (forwardEvent_handOpenFrame _ _))
  · exact endsRunWithOpenFrame_of (f := fun s => endInStop .transportFault (forwardEvent (s.setLine u .moving false)))
      (exec_movingFall hund hs hp hl hu) (exec_movingFall hund' hs' hp' (by rw [hlink', hl]) (hspeed.trans hu))
      (congrArg _ (forwardEvent_handOpenFrame _ _))

end Ends

/-- Settles O37: each row is a report on its way to the OC, and the report's end is the stop. -/
theorem terminatingReportsEndInAStop : Obligations.TerminatingReportsEndInAStop := by
  intro u s hund hs hp l atSpeed under ends gateOff gateOffAndPlaced bothCut atRest
  have reverse (h : under .runningReverse [.reverse]) : s.travelsReverse u = true := by
    refine (s.travelsReverse_iff u).mpr (h.imp_right fun ⟨hst, r, hr, hreq⟩ => ⟨hst, ?_⟩)
    rw [hreq, List.mem_singleton.mp hr]
  have forward (h : under .runningForward [.forward, .forwardWrite]) : s.travelsForward u = true := by
    refine (s.travelsForward_iff u).mpr (h.imp_right fun ⟨hst, r, hr, hreq⟩ => ⟨hst, ?_⟩)
    simpa [hreq] using hr
  have speed (h : atSpeed) : s.atSpeedNow u = true := (s.atSpeedNow_iff u).mpr h
  obtain ⟨runLoadPoint, runEnd, runSpeed, runMoving⟩ := reports_end_the_run hund hs hp
  refine ⟨fun hl hu => runLoadPoint hl (reverse hu), fun hl hu => runEnd hl (forward hu), fun hl hu => runSpeed hl (speed hu),
    fun hl hu => runMoving hl (speed hu), fun hl hu => endsInStop_loadPoint hund hs hp hl (reverse hu),
    fun hl hu => EndsInStop.of_forwardEvent hund (.inl rfl) rfl (exec_endRise hund hs hp hl (forward hu)),
    fun hl hu => EndsInStop.of_forwardEvent hund (.inr rfl) rfl (exec_atSpeedFall hund hs hp hl (speed hu)),
    fun hl hu => movingFall_ends hund hs hp hl hu,
    fun hw => EndsInStop.of_gateEvent (y := s) hund rfl rfl (fun _ => id) (exec_echoDeadline hund hw), fun hw hg => ?permit,
    fun a hoc => ⟨fun ht => ?atSpeed, fun ht => ?acceptance⟩, fun hoc hst => ?stopping⟩
  case permit =>
    refine EndsInStop.of_gateEvent (y := s.setLink u (permitLost (s.link u))) hund rfl rfl
      (fun t ht => stops_of_setLink (l := permitLost (s.link u)) rfl rfl ht) fun hoc => ?_
    rw [exec_writePermitFall hund hs hp hw hg]
    exact congrArg Host.Outcome.next (losePermit_of_underWay hoc)
  case atSpeed =>
    obtain ⟨h1, h2⟩ := timeout_ends (i := .atSpeedTimeout) (tlc := { s.tlc with atSpeedTimer := false }) hund hoc
      (congrArg Host.Outcome.next ((event_of_undisturbed s takeAtSpeedTimeout hund).trans (if_pos ht)))
      fun t h => stops_of_link rfl rfl rfl (fun _ => ⟨rfl, rfl⟩) h
    refine ⟨fun hpend => ?_, fun hpend => ?_⟩
    · obtain ⟨t, hrow, hend, ⟨hoff, -⟩, hcarries⟩ := h1 hpend
      exact ⟨t, hrow, hend, hoff rfl, hcarries⟩
    · obtain ⟨t, hrow, hend, hoff, -⟩ := h2 hpend
      exact ⟨t, hrow, hend, hoff rfl⟩
  case acceptance =>
    obtain ⟨h1, h2⟩ := timeout_ends (i := .acceptanceTimeout) (tlc := { s.tlc with acceptanceTimer := false }) hund hoc
      (congrArg Host.Outcome.next ((event_of_undisturbed s takeAcceptanceTimeout hund).trans (if_pos ht)))
      fun t h => stops_of_link rfl rfl rfl (fun _ => ⟨rfl, rfl⟩) h
    refine ⟨fun hpend => ?_, fun hpend => ?_⟩
    · obtain ⟨t, hrow, hend, ⟨-, hoff⟩, -⟩ := h1 hpend
      exact ⟨t, hrow, hend, hoff rfl⟩
    · obtain ⟨t, hrow, hend, -, hoff⟩ := h2 hpend
      exact ⟨t, hrow, hend, hoff rfl⟩
  case stopping =>
    obtain ⟨h1, h2, h3⟩ := reports_in_stopping hund hp hst
    refine ⟨h1, h2, h3, fun hw hg => ⟨_, exec_writePermitFall hund hs hp hw hg, ?_⟩, fun hw hg =>
      ⟨_, exec_echoDeadline_stopping hund hw hoc, ?_⟩⟩
    · rw [losePermit_of_stopping (show (s.setLink u (permitLost (s.link u))).oc = .stopping from hoc)]
      exact dropGateAndReport_in_stopping hs hst hoc hst
    · have h := dropGateAndReport_in_stopping hs hst hoc hst
      rwa [State.setLink_link] at h

end Sys2Proof.Machine
end

section
/-! PROOF. The end of a stop: complete, or STOP FAULT, or the turn to reverse (R14, R27, R54, R95). -/

namespace Sys2Proof.Machine

section Stops
variable {s t : State} {a : Active} {u : UnitId}

/-! ### The reader at a stop -/

theorem readerAtStop_handOpenFrame (m : ReaderMode) : readerAtStop m (handOpenFrame s) = readerAtStop m s := by
  rw [readerAtStop, readerAtStop, handOpenFrame_handOpenFrame]

/-- The close that the end of a run makes in the stop of TURN gives the LOCATE no count (log 19). -/
theorem readerAtStop_oc (m : ReaderMode) (hoc : s.oc = .active a) :
    ∃ b, (readerAtStop m s).oc = .active b ∧ b.cmd = a.cmd ∧
      (a.cmd.code = .locate → a.phase = .turnStop → b.passed = a.passed) := by
  have hb : (breakClose (handOpenFrame s)).1.oc = .active a :=
    (((handOpenFrame_same s).trans (breakClose_same _)).2.2.1).trans hoc
  have e : (readerAtStop m s).oc = (noteClose (breakClose (handOpenFrame s)).2 (breakClose (handOpenFrame s)).1).oc :=
    (breakOpen_same _).2.2.1
  rw [e]
  rcases noteClose_cases (breakClose (handOpenFrame s)).1 (breakClose (handOpenFrame s)).2 with k | ⟨r, a', -, ha', k⟩
  · rw [k]; exact ⟨a, hb, rfl, fun _ _ => rfl⟩
  · cases hb.symm.trans ha'
    rw [k]
    have hd : (discardVoid (creditClose a r) r (breakClose (handOpenFrame s)).1).1.cmd = a.cmd ∧
        (discardVoid (creditClose a r) r (breakClose (handOpenFrame s)).1).1.passed = (creditClose a r).passed := by
      rcases discardVoid_cases (breakClose (handOpenFrame s)).1 (creditClose a r) r with d | ⟨-, -, -, -, d⟩ <;> rw [d] <;>
        exact ⟨creditClose_cmd a r, rfl⟩
    refine ⟨_, rfl, hd.1, fun hc hp => hd.2.trans ?_⟩
    rw [creditClose_passed (by rw [hc]; rfl)]
    simp [Active.passedAfter, hc, hp]

/-- With nothing selected the close of a record enters no catalogue (log 27). -/
theorem closeRecord_rc_of_unselected (h : s.tlc.selected = none) (o : OpenRecord) (hd : Header) (k : Trailer) (rev : Bool) :
    (closeRecord o hd k rev s).1.rc = s.rc := by
  rw [closeRecord_eq]
  simp [placeClosed, h]

theorem breakClose_rc_of_unselected (h : s.tlc.selected = none) : (breakClose s).1.rc = s.rc := by
  have forward {z : State} (hz : z.tlc.selected = none) (r : Run) : (breakForward r z).1.rc = z.rc := by
    unfold breakForward
    repeat' split
    all_goals first | rfl | exact Eq.trans (closeRecord_rc_of_unselected (by exact hz) _ _ _ _) rfl
  have backward {z : State} (hz : z.tlc.selected = none) (r : Run) : (breakReverse r z).1.rc = z.rc := by
    unfold breakReverse
    dsimp only
    repeat' split
    all_goals first | rfl | exact Eq.trans (closeRecord_rc_of_unselected (by exact hz) _ _ _ _) rfl
  unfold breakClose
  split
  · split
    · exact forward h _
    · exact forward (z := s.setFr { s.fr with run := none }) h _
  · exact backward (z := s.setFr { s.fr with run := none }) h _
  · rfl

theorem breakOpen_rc (s : State) : (breakOpen s).rc = s.rc := by
  unfold breakOpen
  repeat' split
  all_goals rfl

theorem handOpenFrame_rc (s : State) : (handOpenFrame s).rc = s.rc := by
  rcases handOpenFrame_cases s with e | ⟨x, r, rev, -, -, -, -, e⟩ <;> (rw [e]; try rfl)

theorem readerAtStop_rc_of_unselected (m : ReaderMode) (h : s.tlc.selected = none) : (readerAtStop m s).rc = s.rc := by
  have h' : (handOpenFrame s).tlc.selected = none := by rw [handOpenFrame_tlc, h]
  exact (breakOpen_rc _).trans ((noteClose_rc _).trans ((breakClose_rc_of_unselected h').trans (handOpenFrame_rc s)))

/-! ### Stop complete -/

/-- The link at stop complete: the unit IDLE, the stop timer off. -/
def atRest (u : UnitId) (s : State) : State :=
  (s.setUnitState u .idle).setTlc { (s.setUnitState u .idle).tlc with stopTimer := false }

theorem stopComplete_of_stopping (hoc : s.oc = .stopping) : stopComplete u s = stopDone (atRest u s) := by
  unfold stopComplete
  dsimp only
  rewrite [State.setTlc_oc, show (s.setUnitState u .idle).oc = .stopping from hoc]
  rfl

theorem stopComplete_of_turn (hoc : s.oc = .active a) (hp : a.phase = .turnStop) :
    stopComplete u s = turnToReverse (atRest u s) := by
  unfold stopComplete
  dsimp only
  rewrite [State.setTlc_oc, show (s.setUnitState u .idle).oc = .active a from hoc]
  exact if_pos hp

theorem exec_movingFall_stopping (hund : s.undisturbed = true) (hs : s.tlc.selected = some u)
    (hp : (s.link u).lines.present = true) (hl : (s.link u).lines.moving = true) (hst : (s.link u).state = .stopping) :
    exec (.movingFall u) s = .next (stopComplete u (s.setLine u .moving false)) := by
  refine congrArg Host.Outcome.next ((lineEvent_of_present (k := .moving) (b := false) hund hl hp).trans ?_)
  unfold reactMovingFall
  rw [if_pos (show (s.setLine u .moving false).tlc.selected = some u from hs), if_pos (by rw [State.link_setLine]; exact hst)]

/-- The reader at the stop leaves the oc's command, and REVERSE is sent (R54). -/
theorem turnToReverse_blocks (hs : s.tlc.selected = some u) (hoc : s.oc = .active a) (hp : a.phase = .turnStop) :
    ∃ b, (turnToReverse s).oc = .active b ∧ b.cmd = a.cmd ∧ b.reverse = true ∧ b.phase = .turnRamp ∧
      (a.cmd.code = .locate → b.passed = a.passed) ∧
      (s.fr.run = none → b = { a with reverse := true, phase := .turnRamp }) ∧
      (turnToReverse s).tlc.selected = some u ∧ ((turnToReverse s).link u).state = .ramping ∧
      (turnToReverse s).tlc.request = some .reverse ∧ (turnToReverse s).tlc.atSpeedTimer = true ∧
      (turnToReverse s).fr.mode = .parse true ∧ (turnToReverse s).fr.record = none ∧ (turnToReverse s).cmp = s.cmp := by
  obtain ⟨b, hb, hcmd, hpassed⟩ := readerAtStop_oc (.parse true) hoc
  obtain ⟨-, -, -, htlc, -, -, hcmp, -⟩ := readerAtStop_sameButClose s (.parse true)
  have e : turnToReverse s =
      (sendMotion u .reverse ((readerAtStop (.parse true) s).setFw { (readerAtStop (.parse true) s).fw with gate := false })).setOc
        (.active { b with reverse := true, phase := .turnRamp }) := by
    unfold turnToReverse
    dsimp only
    rw [State.setFw_tlc, htlc, hs]
    dsimp only
    rw [show (sendMotion u .reverse
      ((readerAtStop (.parse true) s).setFw { (readerAtStop (.parse true) s).fw with gate := false })).oc = .active b from hb]
  rw [e]
  refine ⟨_, rfl, hcmd, rfl, rfl, fun hc => hpassed hc hp, fun hrun => ?_, ?_, ?_, rfl, rfl, rfl, rfl, hcmp⟩
  · have hstop := readerAtStop_of_nothing (.parse true) (s := s) (.inl hrun)
    rw [hstop] at hb
    cases hoc.symm.trans hb
    rfl
  · exact (congrArg TransportLink.selected htlc :).trans hs
  · exact congrArg UnitLink.state
      (State.link_setLink ((readerAtStop (.parse true) s).setFw { (readerAtStop (.parse true) s).fw with gate := false }) u _)

/-! ### STOP FAULT -/

/-- The link and the catalogue at STOP FAULT, before the reader hears of it. -/
def faulted (u : UnitId) (s : State) : State := releaseUnit (raiseCause .stopFault u (s.setUnitState u .idle))

theorem stopFault_eq (u : UnitId) (s : State) : stopFault u s = readerAtStop .idle (faulted u s) := rfl

theorem faulted_eq (u : UnitId) (s : State) :
    faulted u s =
      releaseUnit ((s.setLink u { s.link u with state := .idle, causes := { (s.link u).causes with stopFault := true } }).setCatalogue u
        .unknown) := by
  simp only [faulted, raiseCause, State.setUnitState, State.link_setLink, State.setLink_setLink, invalidate]
  rfl

/-- STOP FAULT: the unit IDLE and released with its cause, the catalogue UNKNOWN, nothing placed (R27, log 27). -/
theorem stopFault_blocks (u : UnitId) (s : State) :
    SameCommand s.oc (stopFault u s).oc ∧ (stopFault u s).hw = s.hw ∧ (stopFault u s).cu = s.cu ∧ (stopFault u s).cmp = s.cmp ∧
      (stopFault u s).tlc.selected = none ∧ (stopFault u s).tlc.stopTimer = false ∧ (stopFault u s).fw.gate = false ∧
      ((stopFault u s).link u).state = .idle ∧
      ((stopFault u s).link u).causes = { (s.link u).causes with stopFault := true } ∧ (stopFault u s).fr.mode = .idle ∧
      (stopFault u s).fr.record = none ∧ (stopFault u s).catalogue u = .unknown ∧
      (stopFault u s).rc.nextOrdinals = s.rc.nextOrdinals := by
  obtain ⟨h1, h2, -, h4, h5, -, h7, -⟩ := readerAtStop_sameButClose (faulted u s) .idle
  have hlink : (faulted u s).link u =
      { s.link u with state := .idle, causes := { (s.link u).causes with stopFault := true } } := by
    rw [faulted_eq]; exact State.link_setLink s u _
  have hlink' : (stopFault u s).link u = (faulted u s).link u := by rw [stopFault_eq, State.link, h4]; rfl
  have hrc : (stopFault u s).rc = (faulted u s).rc := readerAtStop_rc_of_unselected .idle rfl
  refine ⟨?_, h1, h2, h7, congrArg TransportLink.selected h4, congrArg TransportLink.stopTimer h4, congrArg FrameWriter.gate h5,
    by rw [hlink', hlink], by rw [hlink', hlink], rfl, rfl, ?_, ?_⟩
  · have hb : (breakClose (handOpenFrame (faulted u s))).1.oc = s.oc := ((handOpenFrame_same _).trans (breakClose_same _)).2.2.1
    have hn := noteClose_sameCommand (breakClose (handOpenFrame (faulted u s))).2 (breakClose (handOpenFrame (faulted u s))).1
    rw [hb] at hn
    exact hn.trans (.inl (breakOpen_same _).2.2.1)
  · rw [State.catalogue, hrc, faulted_eq]
    exact State.catalogue_setCatalogue _ u _
  · rw [hrc, faulted_eq]; rfl

/-- The row of the stop limit, as the OC takes it. -/
def faultTaken (u : UnitId) (s : State) : State :=
  match (stopFault u s).oc with
  | .active a => conclude a .transportFault .idle (stopFault u s)
  | _ => enterIdle (stopFault u s)

theorem exec_stopTimeout (hund : s.undisturbed = true) (hs : s.tlc.selected = some u) (ht : s.tlc.stopTimer = true) :
    exec .stopTimeout s = .next (faultTaken u s) := by
  refine congrArg Host.Outcome.next ((event_of_undisturbed s takeStopTimeout hund).trans ?_)
  unfold takeStopTimeout faultTaken
  rw [hs, ht]
  exact if_pos rfl

theorem stopFault_handOpenFrame : stopFault u (handOpenFrame s) = stopFault u s := by
  have h : faulted u (handOpenFrame s) = handOpenFrame (faulted u s) := handOpenFrame_comm (fun _ => rfl) rfl rfl
  rw [stopFault_eq, stopFault_eq, h, readerAtStop_handOpenFrame]

theorem stopComplete_handOpenFrame (h : s.oc = .stopping ∨ ∃ a, s.oc = .active a ∧ a.phase = .turnStop) :
    stopComplete u ((handOpenFrame s).setLine u .moving false) = stopComplete u (s.setLine u .moving false) := by
  have hmode : ((handOpenFrame s).setLine u .moving false).oc = s.oc := (handOpenFrame_same s).2.2.1
  have hrest : atRest u ((handOpenFrame s).setLine u .moving false) = handOpenFrame (atRest u (s.setLine u .moving false)) :=
    handOpenFrame_comm (g := fun s => atRest u (s.setLine u .moving false)) (fun _ => rfl) rfl rfl
  rcases h with hoc | ⟨a, hoc, hp⟩
  · rw [stopComplete_of_stopping (hmode.trans hoc), stopComplete_of_stopping (s := s.setLine u .moving false) hoc, hrest, stopDone,
      readerAtStop_handOpenFrame, ← stopDone]
  · rw [stopComplete_of_turn (hmode.trans hoc) hp, stopComplete_of_turn (s := s.setLine u .moving false) hoc hp, hrest, turnToReverse,
      readerAtStop_handOpenFrame, ← turnToReverse]

/-- A posting that ends in IDLE touches neither link nor catalogue. -/
theorem enterIdle_postActive_blocks (b : Active) (o : CmdOutcome) (z : State) :
    (enterIdle (postActive b o z)).oc = .idle ∧ (enterIdle (postActive b o z)).timer = .stopped ∧
      (enterIdle (postActive b o z)).tlc = z.tlc ∧ (enterIdle (postActive b o z)).rc = z.rc := ⟨rfl, rfl, rfl, rfl⟩

/-- Both rows take a frame still being assembled with the run that the stop ends. -/
theorem stops_end_the_run (hund : s.undisturbed = true) (hs : s.tlc.selected = some u) (hp : (s.link u).lines.present = true)
    (hl : (s.link u).lines.moving = true) (hst : (s.link u).state = .stopping)
    (hoc : s.oc = .stopping ∨ ∃ a, s.oc = .active a ∧ a.phase = .turnStop) :
    endsRunWithOpenFrame (.movingFall u) s ∧ (s.tlc.stopTimer = true → endsRunWithOpenFrame .stopTimeout s) := by
  have hund' : (handOpenFrame s).undisturbed = true := handOpenFrame_undisturbed.trans hund
  have hlink' : (handOpenFrame s).link u = s.link u := by simp only [State.link, handOpenFrame_tlc]
  have hs' : (handOpenFrame s).tlc.selected = some u := by rw [handOpenFrame_tlc, hs]
  refine ⟨?_, fun ht => ?_⟩
  · exact endsRunWithOpenFrame_of (f := fun s => stopComplete u (s.setLine u .moving false))
      (exec_movingFall_stopping hund hs hp hl hst)
      (exec_movingFall_stopping hund' hs' (by rw [hlink', hp]) (by rw [hlink', hl]) (by rw [hlink', hst]))
      (stopComplete_handOpenFrame hoc)
  · refine endsRunWithOpenFrame_of (f := faultTaken u) (exec_stopTimeout hund hs ht)
      (exec_stopTimeout hund' hs' (by rw [handOpenFrame_tlc, ht])) ?_
    rw [faultTaken, stopFault_handOpenFrame, ← faultTaken]

end Stops

/-- Settles O43: the stop complete and the stop limit, in STOPPING and in the stop of TURN. -/
theorem stopsAreCompletedOrFault : Obligations.StopsAreCompletedOrFault := by
  intro u s hund hs hp hl hst
  let y := s.setLine u .moving false
  have hlink : (atRest u y).link u = { (s.link u) with lines := (s.link u).lines.set .moving false, state := .idle } := by
    refine (State.link_setLink y u _).trans ?_
    rw [State.link_setLine]
  obtain ⟨hsame, hhw, hcu, hcmp, hsel, htimer, hgate, hstate, hcauses, hmode, hrecord, hcat, hord⟩ := stopFault_blocks u s
  refine ⟨stops_end_the_run hund hs hp hl hst, fun hoc => ?complete, fun hoc ht => ?fault,
    fun a hoc hph => ⟨?turn, fun ht => ?turnFault⟩⟩
  case complete =>
    have hrow := (exec_movingFall_stopping hund hs hp hl hst).trans
      (congrArg Host.Outcome.next (stopComplete_of_stopping (u := u) (s := y) hoc))
    have hnone : (atRest u y).active = none := by rw [State.active, show (atRest u y).oc = .stopping from hoc]
    obtain ⟨-, h2, -, h4, h5, h6, h7, -⟩ := stopDone_blocks hnone
    have hl' : (stopDone (atRest u y)).link u = (atRest u y).link u := (congrArg (fun t : TransportLink => t.units.get u) h7 :)
    exact ⟨_, hrow, rfl, rfl, by rw [h7], by rw [h7], by rw [h6], by rw [hl', hlink], by rw [hl', hlink], rfl, rfl, h5, h2, h4⟩
  case fault =>
    have hmode' : (stopFault u s).oc = .stopping := by
      rcases hsame with e | ⟨a, b, ha, -⟩
      · exact e.trans hoc
      · simp [hoc] at ha
    have hrow : exec .stopTimeout s = .next (enterIdle (stopFault u s)) :=
      (exec_stopTimeout hund hs ht).trans (congrArg Host.Outcome.next (by simp only [faultTaken, hmode']))
    exact ⟨_, hrow, rfl, rfl, hsel, htimer, hgate, hstate, hcauses, hmode, hrecord, hcat, hord, hcmp⟩
  case turn =>
    have hrow := (exec_movingFall_stopping hund hs hp hl hst).trans
      (congrArg Host.Outcome.next (stopComplete_of_turn (u := u) (s := y) hoc hph))
    obtain ⟨b, h1, h2, h3, h4, h5, h6, h7, h8, h9, h10, h11, h12, h13⟩ :=
      turnToReverse_blocks (s := atRest u y) (u := u) (a := a) hs hoc hph
    exact ⟨_, b, hrow, h1, h2, h3, h4, h5, h6, turnToReverse_timer (atRest u y), h7, h8, h9, h10, h11, h12, h13⟩
  case turnFault =>
    have hpend : s.hw.resetPending = false := State.notPending_of_point hund (by simp [State.resetPoint, hoc, hph])
    obtain ⟨b, hb, hcmd⟩ : ∃ b, (stopFault u s).oc = .active b ∧ b.cmd = a.cmd := by
      rcases hsame with e | ⟨a', b, ha, hb, hc, -⟩
      · exact ⟨a, e.trans hoc, rfl⟩
      · cases hoc.symm.trans ha; exact ⟨b, hb, hc⟩
    have hrow : exec .stopTimeout s = .next (conclude b .transportFault .idle (stopFault u s)) :=
      (exec_stopTimeout hund hs ht).trans (congrArg Host.Outcome.next (by simp only [faultTaken, hb]))
    obtain ⟨hposted, e⟩ := conclude_idle (o := .transportFault) hcmd hcmp hcu (by rw [hhw, hpend])
    refine ⟨_, hrow, hposted, ?_⟩
    obtain ⟨h1, h2, htlc, hrc⟩ := enterIdle_postActive_blocks b .transportFault (stopFault u s)
    rw [e]
    refine ⟨h1, h2, by rw [htlc, hsel], ?_, ?_⟩
    · rw [State.link, htlc]; exact hcauses
    · rw [State.catalogue, hrc]; exact hcat

end Sys2Proof.Machine
end

section
/-! PROOF. Copies on the medium: the echo, H0, the LCF and the trailers, the verdicts at the deadlines, and the two limits that post
(R10, R11, R17, R49 to R52, R62, R67, R72 to R75, R102 to R105, R109 to R114). -/

namespace Sys2Proof.Machine

/-! ### The rows of a reached distance -/

section Rows
variable {s : State} {a : Active} {p : Phase} {f : Active → State → State} {n k : Nat}

theorem PhaseTimer.due_of {t : PhaseTimer} (ht : t.target = some n) (hk : t.phase = some k) (h : n ≤ k) : t.due = true := by
  simp [PhaseTimer.due, ht, hk, h]

theorem atPhaseEnd_of (hoc : s.oc = .active a) (hp : a.phase = p) (hdue : s.timer.due = true) : atPhaseEnd p f s = f a s := by
  simp only [atPhaseEnd, hoc]
  exact if_pos ⟨hp, hdue⟩

theorem exec_of_event {i : Instr} {g : State → State} (hund : s.undisturbed = true) (hi : exec i s = .next (event g s)) :
    exec i s = .next (g s) := by rw [hi, event_of_undisturbed s g hund]

theorem ifSelected_of {u : UnitId} {g : State → State} (h : s.tlc.selected = some u) : ifSelected u g s = g s := if_pos h

theorem ifSelected_of_not {u : UnitId} {g : State → State} (h : s.tlc.selected ≠ some u) : ifSelected u g s = s := if_neg h

end Rows

/-! ### The echo (R21, R49, R50, R72, R73) -/

section Echo
variable {s : State} {a : Active}

theorem lcfTaken_of_lcf (hoc : s.oc = .active a) (hp : a.phase = .lcf) : lcfTaken s = afterLcf a s := by
  simp only [lcfTaken, hoc]
  exact if_pos hp

theorem lcfTaken_of_other (hoc : s.oc = .active a) (hp : a.phase ≠ .lcf) : lcfTaken s = s := by
  simp only [lcfTaken, hoc]
  exact if_neg hp

theorem afterLcf_of_verified (h : a.skipped = false) : afterLcf a s = enterPhase a .drain none s := by
  simp [afterLcf, h]

/-- After a skipped verify a void trailer follows, with the outcome of what cut the run (R50). -/
theorem afterLcf_of_skipped {x : CopyAccount} (h : a.skipped = true) (hx : s.fw.account = some x) :
    afterLcf a s =
      (s.setOc
        (.active
          { a with
            phase := .trailer .void
            voidOutcome := if a.abortMark = true ∨ x.cut ≠ some .underrun then .aborted else .underrun })).setTimer
        { s.timer with target := some 4 } := by
  simp only [afterLcf, h, hx, if_true, Bool.or_eq_true, decide_eq_true_eq]
  rfl

/-- The LCF's echo clears the watch and marks the account (R72). -/
def echoed (s : State) : State :=
  s.setFw { s.fw with watch := none, account := s.fw.account.map fun x => { x with lcf := .echoed } }

theorem takeEcho_of_lcf (hw : s.fw.watch = some .lcf) : takeEcho s = lcfTaken (echoed s) := by
  simp only [takeEcho, hw, if_true]
  rfl

/-- Settles O45: the pulses of another unit, and the echo by what is awaited. -/
theorem echoAnswersTheAwaitedFrame : Obligations.EchoAnswersTheAwaitedFrame := by
  intro u s hund
  have row (g : State → State) : event (ifSelected u g) s = ifSelected u g s := event_of_undisturbed s _ hund
  refine ⟨fun hs => ⟨?_, ?_, fun l strong => ?_⟩, fun hs => ⟨fun hw => ?_, fun role hw hr => ?_, fun a hw hoc hp hk => ?_,
    fun a x hw hoc hp hk hx => ?_⟩⟩
  · exact congrArg Host.Outcome.next ((row takeEcho).trans (ifSelected_of_not hs))
  · refine congrArg Host.Outcome.next ((event_of_undisturbed s (takeTick u) hund).trans ?_)
    simp only [takeTick, ifSelected_of_not hs]
  · exact congrArg Host.Outcome.next ((row _).trans (ifSelected_of_not hs))
  all_goals refine congrArg Host.Outcome.next ((row takeEcho).trans ((ifSelected_of hs).trans ?_))
  · simp only [takeEcho, hw]
  · simp only [takeEcho, hw, hr, if_false]; rfl
  · exact (takeEcho_of_lcf hw).trans ((lcfTaken_of_lcf (s := echoed s) hoc hp).trans (afterLcf_of_verified hk))
  · have hx' : (echoed s).fw.account = some { x with lcf := .echoed } := congrArg (Option.map _) hx
    have he : echoed s = s.setFw { s.fw with watch := none, account := some { x with lcf := .echoed } } := by
      rw [echoed, hx]; rfl
    refine (takeEcho_of_lcf hw).trans ((lcfTaken_of_lcf (s := echoed s) hoc hp).trans ((afterLcf_of_skipped hk hx').trans ?_))
    rw [he]
    rfl

end Echo

/-! ### H0 (R3, R10, R11, R51, R62, R67, R102 to R105) -/

section Begin
variable {s : State} {a : Active}

/-- What H0, H1 and H2 of a copy hold (R3). -/
theorem headerZero_fields : ∀ (mark : Bool) (copy : Fin 8),
    (headerZero (if mark then .mark else .data) copy.val).getLsbD 0 = mark ∧
      ((headerZero (if mark then .mark else .data) copy.val).extractLsb' 1 3).toNat = copy.val ∧
      (headerZero (if mark then .mark else .data) copy.val).extractLsb' 4 4 = 0#4 := by decide

theorem headerByte_fields (kind : Kind) {copy : Nat} (ordinal : Word) (hc : copy ≤ 7) :
    let h0 := headerByte kind copy ordinal 0
    h0 = headerZero kind copy ∧ h0.getLsbD 0 = decide (kind = .mark) ∧ (h0.extractLsb' 1 3).toNat = copy ∧
      h0.extractLsb' 4 4 = 0#4 ∧ headerByte kind copy ordinal 1 = ordinal.extractLsb' 8 8 ∧
      headerByte kind copy ordinal 2 = ordinal.extractLsb' 0 8 := by
  have h := headerZero_fields (decide (kind = .mark)) ⟨copy, by omega⟩
  have hk : (if decide (kind = .mark) = true then Kind.mark else .data) = kind := by cases kind <;> rfl
  rw [hk] at h
  obtain ⟨h1, h2, h3⟩ := h
  exact ⟨rfl, h1, h2, h3, rfl, rfl⟩

/-- An entry handed to the Verify Unit joins the window, or overflows (R102, R103, R105). -/
theorem VerifyUnit.push_eq (v : VerifyUnit) (e : WindowEntry) :
    let taken : VerifyUnit :=
      if e.role = .header ∧ e.index = 0 then
        { v with
          state := if v.state = .idle then .listening else v.state, copyFailure := none, soft := false,
          blankNotice := false }
      else if e.role = .trailer ∧ e.index = 0 then
        { v with state := if v.state = .idle then .trailerCheck else v.state, trailerFailure := none }
      else v
    (v.window.length < 64 → v.push e = { taken with window := v.window ++ [e] }) ∧
    (64 ≤ v.window.length →
      v.push e =
        { taken with
          copyFailure := (match taken.copyFailure with | some k => some k | none => some .overflow) }) := by
  intro taken
  have hpush : v.push e =
      if taken.window.length < 64 then { taken with window := taken.window ++ [e] }
      else { taken with copyFailure := firstFailure taken.copyFailure (some .overflow) } := by
    obtain ⟨st, window, copyFailure, trailerFailure, soft, blankNotice, reported, corrected, marginal, skew⟩ := v
    cases st <;> rfl
  have hwindow : taken.window = v.window := by
    change (if _ then _ else if _ then _ else v : VerifyUnit).window = v.window
    split
    · rfl
    · split <;> rfl
  refine ⟨fun h => ?_, fun h => ?_⟩
  · rw [hpush, hwindow, if_pos h]
  · rw [hpush, hwindow, if_neg (by omega)]; rfl

/-- A copy begins (R49, R67). -/
theorem beginCopy_blocks (a : Active) (s : State) :
    let ordinal := a.ordinal.getD (s.nextOrdinal a.cmd.unit)
    let h0 := frameOf (headerZero (kindOf a.cmd) a.copyCounter)
    (beginCopy a s).oc =
        .active { a with phase := .headerData, ordinal := some ordinal, verdict := none, skipped := false } ∧
      (beginCopy a s).timer = { s.timer with phase := some 0, target := none } ∧
      (beginCopy a s).fw.lanes = h0 ∧ (beginCopy a s).fw.strobe = true ∧ (beginCopy a s).fw.acc = h0 ∧
      (beginCopy a s).fw.watch = some .header ∧ (beginCopy a s).fw.gate = s.fw.gate ∧
      (beginCopy a s).fw.account =
        some
          { kind := kindOf a.cmd, ordinal := ordinal, copy := a.copyCounter, source := sourceOf a.cmd, planned := a.cmd.count,
            headerRun := 1, dataFrames := 0, cut := none, lcf := .pending, trailer := .none, passed := false,
            ended := .inProgress } ∧
      (beginCopy a s).vu = s.vu.push { value := h0, role := .header, index := 0 } ∧ (beginCopy a s).rc = s.rc ∧
      (beginCopy a s).bu = s.bu ∧ (beginCopy a s).cmp = s.cmp :=
  ⟨rfl, rfl, rfl, rfl, BitVec.zero_xor, rfl, rfl, rfl, rfl, rfl, rfl, rfl⟩

theorem kindOf_eq (c : Command) : kindOf c = if c.code = .writeMark then .mark else .data := by
  unfold kindOf
  cases c.code <;> rfl

/-- Settles O53: the bytes of the header, the window, and the beginning of the copy. -/
theorem copyBeginsWithH0 : Obligations.CopyBeginsWithH0 := by
  refine ⟨fun c => ?_, fun kind copy ordinal hc => headerByte_fields kind ordinal hc, fun v e => v.push_eq e,
    fun a n k s hund hoc ht hk hle => ?_⟩
  · unfold sourceOf; cases c.code <;> rfl
  intro begins
  have hdue := PhaseTimer.due_of ht hk hle
  have begun {i : Instr} (copy : Nat) (hrow : exec i s = .next (beginCopy { a with copyCounter := copy } s)) : begins i copy := by
    obtain ⟨h1, h2, h3, h4, h5, h6, h7, h8, h9, h10, h11, h12⟩ := beginCopy_blocks { a with copyCounter := copy } s
    simp only [kindOf_eq] at h3 h5 h8 h9
    exact ⟨_, hrow, h1, h2, h3, h4, h5, h6, h7, h8, h9, h10, h11, h12⟩
  refine ⟨fun hp => ?_, fun hp hc => ?_, fun hp hc => ?_, fun hp => ?_⟩
  · refine begun a.copyCounter (congrArg Host.Outcome.next ((event_of_undisturbed s takeGuardEnd hund).trans ?_))
    exact atPhaseEnd_of hoc hp hdue
  · refine begun a.copyCounter (congrArg Host.Outcome.next ((event_of_undisturbed s takeLeaderEnd hund).trans ?_))
    exact (atPhaseEnd_of hoc hp hdue).trans (if_neg hc)
  · refine congrArg Host.Outcome.next ((event_of_undisturbed s takeLeaderEnd hund).trans ?_)
    exact (atPhaseEnd_of hoc hp hdue).trans (if_pos hc)
  · refine begun (a.copyCounter + 1) (congrArg Host.Outcome.next ((event_of_undisturbed s takeRewriteGapEnd hund).trans ?_))
    exact atPhaseEnd_of hoc hp hdue

end Begin

/-! ### The LCF, the trailers and the verdicts (R6, R49, R50, R72, R75, R109 to R114) -/

section Verdicts
variable {s : State} {a : Active} {x : CopyAccount}

/-- One frame written: accumulated, counted, awaited, and handed to the Verify Unit where it is to be verified (R66). -/
theorem writeFrame_eq (v : Lanes) (role : FrameRole) (n : Nat) (verified : Bool) (s : State) :
    writeFrame v role n verified s =
      (s.setFw
          { s.fw with
            acc := accumulate s.fw.acc v role, account := s.fw.account.map fun y => y.count role, watch := some role
            lanes := v, strobe := true }).setVu
        (if verified then s.vu.push { value := v, role := role, index := n } else s.vu) := by
  cases verified <;> rfl

/-- The OC at the LCF place: LCF, with the deadline count begun (R49, R72). -/
def atLcfPlace (a : Active) (s : State) : State :=
  (enterPhase a .lcf none s).setTimer
    { phase := some 0, target := none, deadline := some { count := 0, target := a.profile.headDistance + 4 } }

/-- The place left blank. -/
def blankPlace (a : Active) (s : State) : State :=
  (atLcfPlace a s).setFw { s.fw with account := s.fw.account.map fun x => { x with lcf := .blank } }

theorem blankPlace_eq (hx : s.fw.account = some x) :
    blankPlace a s = (atLcfPlace a s).setFw { s.fw with account := some { x with lcf := .blank } } := by
  rw [blankPlace, hx]; rfl

theorem takeLcfPlace_of_written (hx : s.fw.account = some x) (hacc : s.fw.acc ≠ 0) :
    takeLcfPlace a s = writeFrame s.fw.acc .lcf x.headerRun (!a.skipped) (atLcfPlace a s) := by
  simp only [takeLcfPlace, hx]
  exact if_neg hacc

theorem takeLcfPlace_of_blank (hacc : s.fw.acc = 0) {v : VerifyUnit × Option Verdict}
    (hv : (if a.skipped then (s.vu, none) else s.vu.blankLcf) = v) :
    takeLcfPlace a s = lcfTaken (takeVerdict v.2 ((blankPlace a s).setVu v.1)) := by
  subst hv
  unfold takeLcfPlace
  exact if_pos hacc

theorem VerifyUnit.blankLcf_of_ne_nil {v : VerifyUnit} (h : v.state = .listening) (hw : v.window ≠ []) :
    v.blankLcf = ({ v with blankNotice := true }, none) := by
  simp [VerifyUnit.blankLcf, h, hw]

theorem VerifyUnit.blankLcf_of_nil {v : VerifyUnit} (h : v.state = .listening) (hw : v.window = []) :
    v.blankLcf = ((v.verdict).1, some (v.verdict).2) := by
  simp only [VerifyUnit.blankLcf, h, hw, List.isEmpty_nil, if_true]
  rfl

/-- The verdict on the copy as the OC takes it (R50, R196, R199). -/
theorem takeCopyVerdict_eq (hoc : s.oc = .active a) (pass soft : Bool) :
    let commits : Bool := pass && !a.abortMark && !s.hw.resetPending
    takeCopyVerdict pass soft s =
      (s.setOc
        (.active
          { a with
            verdict := some (pass, soft)
            phase := if commits then .trailer .commit else .trailer .void
            voidOutcome := if commits then .done else if a.abortMark then .aborted else .verifyFailed })).setTimer
        { phase := some 0, target := some 4, deadline := none } := by
  intro commits
  simp only [takeCopyVerdict, hoc]
  by_cases h : commits = true
  · simp only [h, if_true]
    exact if_pos h
  · simp only [h]
    exact if_neg h

/-- Settles O54: the LCF place by what the accumulator and the window hold, and the first trailer frame. -/
theorem lcfAndTrailerFramesAreWritten : Obligations.LcfAndTrailerFramesAreWritten := by
  intro a x n k s hund hoc hx ht hk hle deadline
  have hdue := PhaseTimer.due_of ht hk hle
  have place (hp : a.phase = .checkSpace) : exec .lcfPlace s = .next (takeLcfPlace a s) :=
    congrArg Host.Outcome.next ((event_of_undisturbed s takeCheckSpaceEnd hund).trans (atPhaseEnd_of hoc hp hdue))
  refine ⟨fun hp hacc => ?written, fun hp hacc hk hv hw => ?drain, fun hp hacc hk hv hw => ?verdict, fun hp hacc hk => ?skipped,
    fun k hp htr => ?trailer⟩
  case written =>
    rw [place hp, takeLcfPlace_of_written hx hacc]
    refine congrArg Host.Outcome.next ?_
    have hfw :
        ({ s.fw with
            acc := accumulate s.fw.acc s.fw.acc .lcf, account := s.fw.account.map fun y => y.count .lcf, watch := some .lcf
            lanes := s.fw.acc, strobe := true } : FrameWriter) =
          { s.fw with
            acc := 0, watch := some .lcf, lanes := s.fw.acc, strobe := true, account := some { x with lcf := .written } } := by
      rw [hx, show accumulate s.fw.acc s.fw.acc .lcf = 0 from BitVec.xor_self]; rfl
    have hvu : (if !a.skipped then s.vu.push { value := s.fw.acc, role := .lcf, index := x.headerRun } else s.vu) =
        if a.skipped then s.vu else s.vu.push { value := s.fw.acc, role := .lcf, index := x.headerRun } := by
      cases a.skipped <;> rfl
    exact (writeFrame_eq _ _ _ _ _).trans (congrArg₂ (fun fw v => ((atLcfPlace a s).setFw fw).setVu v) hfw hvu)
  case drain =>
    rw [place hp, takeLcfPlace_of_blank hacc ((if_neg (by simp [hk])).trans (VerifyUnit.blankLcf_of_ne_nil hv hw))]
    exact congrArg Host.Outcome.next
      ((lcfTaken_of_lcf (s := (blankPlace a s).setVu { s.vu with blankNotice := true }) rfl rfl).trans
        ((afterLcf_of_verified hk).trans (by rw [blankPlace_eq hx]; rfl)))
  case verdict =>
    rw [place hp, takeLcfPlace_of_blank hacc ((if_neg (by simp [hk])).trans (VerifyUnit.blankLcf_of_nil hv hw))]
    refine congrArg Host.Outcome.next ?_
    have e := takeCopyVerdict_eq (s := (blankPlace a s).setVu (s.vu.verdict).1) (a := { a with phase := .lcf }) rfl
      s.vu.copyFailure.isNone s.vu.soft
    refine (congrArg lcfTaken e).trans ((lcfTaken_of_other rfl ?_).trans ?_)
    · dsimp only
      split <;> simp
    · simp only [VerifyUnit.verdict, ← hw, blankPlace_eq hx]
      rfl
  case skipped =>
    rw [place hp, takeLcfPlace_of_blank hacc (if_pos hk)]
    exact congrArg Host.Outcome.next
      ((lcfTaken_of_lcf (s := (blankPlace a s).setVu s.vu) rfl rfl).trans
        ((afterLcf_of_skipped (x := { x with lcf := .blank }) hk (congrArg (Option.map _) hx)).trans (by rw [blankPlace_eq hx]; rfl)))
  case trailer =>
    have hrow : exec .trailerPlacement s = .next (writeTrailerFirst k s) := by
      refine congrArg Host.Outcome.next ((event_of_undisturbed s takeTrailerPlacement hund).trans ?_)
      simp [takeTrailerPlacement, hoc, hp, hdue, hx, htr]
    rw [hrow]
    refine congrArg Host.Outcome.next ?_
    cases k <;> simp only [writeTrailerFirst, writeFrame, hx] <;> rfl

/-! ### The deadlines (R110, R113, R114) -/

/-- With entries left at a deadline the failure is DROPPED, but for one recorded before (R110). -/
def failureAtDeadline (window : List WindowEntry) (f : Option FailureKind) : Option FailureKind :=
  match f with
  | some k => some k
  | none => if window = [] then none else some .dropped

theorem VerifyUnit.deadline_of_listening {v : VerifyUnit} (h : v.state = .listening) :
    v.deadline =
      ({ v with
         state := .idle, window := [], blankNotice := false,
         copyFailure := failureAtDeadline v.window v.copyFailure
         reported := (match failureAtDeadline v.window v.copyFailure with | some k => some k | none => v.reported) },
       some (.copy (failureAtDeadline v.window v.copyFailure).isNone v.soft)) := by
  obtain ⟨st, window, copyFailure, trailerFailure, soft, blankNotice, reported, corrected, marginal, skew⟩ := v
  cases h
  cases window <;> cases copyFailure <;> rfl

theorem VerifyUnit.deadline_of_trailerCheck {v : VerifyUnit} (h : v.state = .trailerCheck) :
    v.deadline =
      ({ v with
         state := .idle, window := [], trailerFailure := failureAtDeadline v.window v.trailerFailure
         reported := (match failureAtDeadline v.window v.trailerFailure with | some k => some k | none => v.reported) },
       some (.trailer (failureAtDeadline v.window v.trailerFailure).isNone)) := by
  obtain ⟨st, window, copyFailure, trailerFailure, soft, blankNotice, reported, corrected, marginal, skew⟩ := v
  cases h
  cases window <;> cases trailerFailure <;> rfl

theorem takeDeadline_of {d : Deadline} {st : VerifyState} (hd : s.timer.deadline = some d) (hle : d.target ≤ d.count)
    (hv : s.vu.state = st) :
    takeDeadline st s = takeVerdict s.vu.deadline.2 ((s.setVu s.vu.deadline.1).setTimer { s.timer with deadline := none }) := by
  unfold takeDeadline
  exact if_pos (by simp [State.deadlineDue, hd, hle, hv])

/-- The trailer verdict as the OC takes it: the copy described, then the command posted (R50, R114). -/
theorem takeTrailerVerdict_eq (hoc : s.oc = .active a) (pass : Bool) :
    takeTrailerVerdict pass s =
      conclude a (if pass then .done else .trailerFailed) (.finish 16) (endCopy a (if pass then .sealed else .trailerFailed) s) := by
  simp only [takeTrailerVerdict, hoc]
  rfl

theorem takeTrailerVerdict_ends {r : State} (hoc : r.oc = .active a) (pass : Bool) (hp : r.hw.resetPending = false)
    (hcmp : r.cmp = s.cmp) (hcu : r.cu = s.cu) (hfw : r.fw = s.fw) (hrc : r.rc = s.rc) (hsel : r.tlc.selected = s.tlc.selected) :
    endsInFinish a (if pass then .done else .trailerFailed) 16 s (takeTrailerVerdict pass r) ∧
      (takeTrailerVerdict pass r).vu = r.vu ∧
      copyDescribed a (if pass then .sealed else .trailerFailed) (if pass then .commit else .none) s (takeTrailerVerdict pass r) := by
  obtain ⟨h1, h2, -, -, -, -, h7, -, h9, -⟩ := endCopy_blocks (s := r) a (if pass then .sealed else .trailerFailed)
  have hpend : (endCopy a (if pass then .sealed else .trailerFailed) r).hw.resetPending = false := by rw [h1, hp]
  rw [takeTrailerVerdict_eq hoc]
  have e (o : CmdOutcome) (z : State) (hz : z.hw.resetPending = false) :
      conclude a o (.finish 16) z = enterFinish a 16 (postActive a o z) := by simp [conclude, hz]
  refine ⟨conclude_finish 16 rfl rfl (h9.trans hcmp) (h2.trans hcu) hpend, ?_, fun x hx => ?_⟩
  · rw [e _ _ hpend]; exact h7
  · obtain ⟨hrc', hfw'⟩ := endCopy_of_account (s := r) (a := a) (x := x) (by rw [hfw, hx]) (if pass then .sealed else .trailerFailed)
    rw [e _ _ hpend]
    refine ⟨hfw'.trans (by rw [hfw]), hrc'.trans ?_⟩
    rw [placeForward_rc_congr hrc hsel]
    cases pass <;> rfl

/-- Settles O55: the verdict of each deadline, and what the OC makes of it. -/
theorem deadlinesGiveTheVerdict : Obligations.DeadlinesGiveTheVerdict := by
  intro a d s hund hoc hd hle failed
  have hfailed (f : Option FailureKind) : failed f = failureAtDeadline s.vu.window f := by
    cases f <;> rfl
  refine ⟨fun hv => ?drain, fun hv hp => ?trailer⟩
  case drain =>
    have e := VerifyUnit.deadline_of_listening hv
    let r := (s.setVu s.vu.deadline.1).setTimer { s.timer with deadline := none }
    have hrow : exec .drainDeadline s = .next (takeVerdict s.vu.deadline.2 r) :=
      congrArg Host.Outcome.next ((event_of_undisturbed s (takeDeadline .listening) hund).trans (takeDeadline_of hd hle hv))
    refine ⟨_, hrow, ?_⟩
    have hverdict : s.vu.deadline.2 = some (.copy (failureAtDeadline s.vu.window s.vu.copyFailure).isNone s.vu.soft) := by rw [e]
    have hvu : r.vu = s.vu.deadline.1 := rfl
    rw [hverdict, hfailed]
    change givesVerdict a _ _ s (takeCopyVerdict (failureAtDeadline s.vu.window s.vu.copyFailure).isNone s.vu.soft r)
    rw [takeCopyVerdict_eq (s := r) hoc]
    refine ⟨?_, ?_, ?_, rfl, rfl, rfl, rfl, _, rfl, rfl, fun _ => rfl⟩
    · exact (congrArg VerifyUnit.state hvu).trans (by rw [e])
    · exact (congrArg VerifyUnit.window hvu).trans (by rw [e])
    · exact (congrArg VerifyUnit.reported hvu).trans (congrArg (fun v => VerifyUnit.reported v.1) e)
  case trailer =>
    have e := VerifyUnit.deadline_of_trailerCheck hv
    let r := (s.setVu s.vu.deadline.1).setTimer { s.timer with deadline := none }
    have hrow : exec .trailerDeadline s = .next (takeVerdict s.vu.deadline.2 r) :=
      congrArg Host.Outcome.next ((event_of_undisturbed s (takeDeadline .trailerCheck) hund).trans (takeDeadline_of hd hle hv))
    have hverdict : s.vu.deadline.2 = some (.trailer (failureAtDeadline s.vu.window s.vu.trailerFailure).isNone) := by rw [e]
    rw [hverdict] at hrow
    rw [hfailed]
    obtain ⟨h1, h2, h3⟩ := takeTrailerVerdict_ends (s := s) (r := r) hoc (failureAtDeadline s.vu.window s.vu.trailerFailure).isNone hp
      rfl rfl rfl rfl rfl
    refine ⟨fun hf => ?_, fun k hf => ?_⟩
    · rw [hf] at h1 h3 hrow h2
      exact ⟨_, hrow, h1, (congrArg VerifyUnit.state h2).trans (congrArg (fun v => VerifyUnit.state v.1) e), h3⟩
    · have hrep : r.vu.reported = some k := by
        refine (congrArg (fun v => VerifyUnit.reported v.1) e).trans ?_
        rw [hf]
      rw [hf] at h1 h3 hrow h2
      exact ⟨_, hrow, h1, (congrArg VerifyUnit.reported h2).trans hrep, h3⟩

end Verdicts

/-! ### The limits that post (R17, R52, R56) -/

section Limits
variable {s : State} {a : Active}

/-- A byte delivered moves the buffers, the command's byte count and qualifiers, and the marks of the run. -/
theorem deliverByte_cases (a : Active) (r : Run) (n : Nat) (v : Byte) (s : State) :
    deliverByte a r n v s = s ∨
      (∃ bu b, b.cmd = a.cmd ∧ b.reverse = a.reverse ∧ deliverByte a r n v s = (s.setBu bu).setOc (.active b)) ∨
      (∃ fr b, b.cmd = a.cmd ∧ b.reverse = a.reverse ∧ deliverByte a r n v s = (s.setFr fr).setOc (.active b)) ∨
      ∃ fr, deliverByte a r n v s = s.setFr fr := by
  unfold deliverByte
  split
  · split
    · exact .inl rfl
    · split
      · exact .inr (.inl ⟨_, { a with bytes := a.bytes + 1 }, rfl, rfl, rfl⟩)
      · split
        · exact .inr (.inl ⟨_, { a with bytes := a.bytes + 1 }, rfl, rfl, rfl⟩)
        · exact .inr (.inr (.inl ⟨_, { a with qualifiers := { a.qualifiers with overrun := true } }, rfl, rfl, rfl⟩))
      · exact .inl rfl
  · exact .inr (.inr (.inr ⟨_, rfl⟩))

/-- What a frame that joins its run leaves: everything but the reader, the buffers and the command's tallies. -/
def SameButBytes (s t : State) : Prop :=
  t.hw = s.hw ∧ t.cu = s.cu ∧ t.timer = s.timer ∧ t.tlc = s.tlc ∧ t.fw = s.fw ∧ t.vu = s.vu ∧ t.rc = s.rc ∧ t.cmp = s.cmp ∧
    ∀ a, s.oc = .active a → ∃ b, t.oc = .active b ∧ b.cmd = a.cmd ∧ b.reverse = a.reverse

theorem SameButBytes.of_setFr (s : State) (fr : FrameReader) : SameButBytes s (s.setFr fr) :=
  ⟨rfl, rfl, rfl, rfl, rfl, rfl, rfl, rfl, fun a h => ⟨a, h, rfl, rfl⟩⟩

theorem joinRun_sameButBytes (f : ReadFrame) (s : State) : SameButBytes s (joinRun f s) := by
  unfold joinRun
  dsimp only
  split
  · rename_i a hoc
    have hoc' : s.oc = .active a := hoc
    split
    · rcases deliverByte_cases a ((s.fr.run.getD (Run.start false)).join f) (((s.fr.run.getD (Run.start false)).join f).length - 4)
        (dataLanes f.value) (s.setFr { s.fr with run := some ((s.fr.run.getD (Run.start false)).join f) }) with
        e | ⟨bu, b, hc, hr, e⟩ | ⟨fr, b, hc, hr, e⟩ | ⟨fr, e⟩ <;> rw [e]
      · exact .of_setFr s _
      · exact ⟨rfl, rfl, rfl, rfl, rfl, rfl, rfl, rfl, fun a' ha => by cases hoc'.symm.trans ha; exact ⟨b, rfl, hc, hr⟩⟩
      · exact ⟨rfl, rfl, rfl, rfl, rfl, rfl, rfl, rfl, fun a' ha => by cases hoc'.symm.trans ha; exact ⟨b, rfl, hc, hr⟩⟩
      · exact .of_setFr s fr
    · exact .of_setFr s _
  · exact .of_setFr s _

/-- In PARSE a closed frame joins its run, and gives no verdict. -/
theorem closeFrame_sameButBytes {rev : Bool} (hm : s.fr.mode = .parse rev) : SameButBytes s (closeFrame s) := by
  unfold closeFrame
  split
  · exact .of_setFr s s.fr
  · dsimp only
    rw [State.setFr_fr, hm]
    dsimp only
    split
    · exact .of_setFr s _
    · obtain ⟨h1, h2, h3, h4, h5, h6, h7, h8, h9⟩ :=
        joinRun_sameButBytes (selectFrame ‹_›) (s.setFr { s.fr with mode := .parse rev, frame := none })
      exact ⟨h1, h2, h3, h4, h5, h6, h7, h8, h9⟩

theorem dropHeaderRun_sameButBytes (s : State) : SameButBytes s (dropHeaderRun s) := by
  unfold dropHeaderRun
  split
  · rename_i hdue
    have hmode : ∃ rev, s.fr.mode = .parse rev := by
      unfold State.runBreakDue at hdue
      cases hm : s.fr.mode <;> simp_all
    obtain ⟨rev, hm⟩ := hmode
    dsimp only
    split
    · obtain ⟨h1, h2, h3, h4, h5, h6, h7, h8, h9⟩ := closeFrame_sameButBytes hm
      exact ⟨h1, h2, h3, h4, h5, h6, h7, h8, h9⟩
    · exact closeFrame_sameButBytes hm
  · exact .of_setFr s s.fr

theorem takeSearchLimit_of {n : Nat} (hn : s.fr.search = some n) (hle : 4000 ≤ n) (hin : s.inForce = true) :
    takeSearchLimit s = endSearch (dropHeaderRun s) := by
  unfold takeSearchLimit
  rw [hn]
  exact if_pos (by simp [hin, Config.searchLimit, hle])

/-- FINISH with its posting leaves link, writer, Verify Unit and catalogue. -/
theorem conclude_finish_blocks (b : Active) (o : CmdOutcome) (n : Nat) (z : State) (hp : z.hw.resetPending = false) :
    (conclude b o (.finish n) z).tlc = z.tlc ∧ (conclude b o (.finish n) z).fw = z.fw ∧ (conclude b o (.finish n) z).vu = z.vu ∧
      (conclude b o (.finish n) z).rc = z.rc ∧ (conclude b o (.finish n) z).fr = z.fr.afterPosting ∧
      (conclude b o (.finish n) z).hw = z.hw := by
  rw [show conclude b o (.finish n) z = enterFinish b n (postActive b o z) by simp [conclude, hp]]
  exact ⟨rfl, rfl, rfl, rfl, rfl, rfl⟩

/-- Settles O52: BLANK at the search limit, DONE at the erase count. -/
theorem searchAndEraseLimitsPost : Obligations.SearchAndEraseLimitsPost := by
  intro a s hund hp hoc
  refine ⟨fun n hn hle => ?_, fun n k hph ht hk hle => ?_⟩
  · obtain ⟨h1, h2, -, h4, -, -, h7, h8, h9⟩ := dropHeaderRun_sameButBytes s
    obtain ⟨b, hb, hcmd, hrev⟩ := h9 a hoc
    have hpend : ((dropHeaderRun s).setFr { (dropHeaderRun s).fr with search := none }).hw.resetPending = false :=
      (congrArg HostWindow.resetPending h1).trans hp
    have hrow : exec .searchLimit s =
        .next (conclude b .blank (.finish 16) ((dropHeaderRun s).setFr { (dropHeaderRun s).fr with search := none })) := by
      refine congrArg Host.Outcome.next ((event_of_undisturbed s takeSearchLimit hund).trans ?_)
      rw [takeSearchLimit_of hn hle (by simp [State.inForce, State.active, hoc])]
      simp only [endSearch, hb, shortFinish, Config.finishTicks]
    obtain ⟨ktlc, -, -, krc, -⟩ := conclude_finish_blocks b .blank 16 _ hpend
    exact ⟨_, hrow, conclude_finish 16 hcmd hrev h8 h2 hpend, ktlc.trans h4, krc.trans h7⟩
  · have hrow : exec .eraseEnd s = .next (conclude a .done (.finish 16) s) :=
      congrArg Host.Outcome.next ((event_of_undisturbed s takeEraseEnd hund).trans
        (atPhaseEnd_of hoc hph (PhaseTimer.due_of ht hk hle)))
    obtain ⟨ktlc, kfw, -, krc, -⟩ := conclude_finish_blocks a .done 16 s hp
    exact ⟨_, hrow, conclude_finish 16 rfl rfl rfl rfl hp, kfw, ktlc, krc⟩

end Limits

end Sys2Proof.Machine
end

section
/-! PROOF. The start from rest and the end of FINISH (R29, R46, R47, R53, R57, R63, R96, R132, R133, R152, R153, R174). -/

namespace Sys2Proof.Machine

section Begin
variable {s : State} {a : Active} {c : Command}

/-! ### The beginning of a command -/

/-- What the beginning leaves: the Buffer Unit's start, the Verify Unit's counts and the reader's account fresh. -/
theorem beginCommand_eq (c : Command) (s : State) :
    (beginCommand c s).1 =
      ((s.setBu (s.bu.atStart c).1).setVu s.vu.begin).setFr
        { s.fr with account := { ReadAccount.empty with receiving := c.code.receives } } := rfl

theorem atStart_fill (h : c.code = .read) : ((s.bu.atStart c).1.buffer c.buffer).fill = 0 := by
  simp only [BufferUnit.atStart, h, BufferUnit.setFill, BufferUnit.setBuffer, BufferUnit.buffer, PerBuffer.get_set_self]

/-- END WARNING from the start (R29, R47). -/
theorem noteEndMarker_eq (a : Active) (l : Lines) :
    noteEndMarker a l =
      { a with
        qualifiers :=
          { a.qualifiers with
            endWarning :=
              a.qualifiers.endWarning || ((a.cmd.code.writeClass || a.cmd.code.readClass) && !a.reverse && l.endMarker) } } := by
  unfold noteEndMarker
  cases (a.cmd.code.writeClass || a.cmd.code.readClass) && !a.reverse && l.endMarker <;> simp

theorem readClass_of_writeClass {k : CommandCode} (h : k.writeClass = true) : k.readClass = false := by
  cases k <;> first | rfl | cases h

theorem writeClass_of_readClass {k : CommandCode} (h : k.readClass = true) : k.writeClass = false := by
  cases k <;> first | rfl | cases h

theorem receives_eq (k : CommandCode) : k.receives = (decide (k = .read) || decide (k = .readStream)) := by cases k <;> rfl

end Begin

/-! ### The end of FINISH (R57, R152) -/

section Chain
variable {s : State} {f : Finishing} {c : Command} {rest : List Command}

theorem chains_iff :
    chains f c = true ↔
      c.code.medium = true ∧ c.code ≠ .rewind ∧ c.code ≠ .unload ∧ c.code ≠ .locate ∧ c.unit = f.unit ∧
        ((f.writeClass = true ∧ c.code.writeClass = true) ∨
          (f.writeClass = false ∧ c.code.readClass = true ∧ c.reverse = f.reverse)) := by
  simp [chains, and_assoc]

theorem chains_write (hu : c.unit = f.unit) (hf : f.writeClass = true) (hc : c.code.writeClass = true) : chains f c = true := by
  refine chains_iff.mpr ⟨?_, ?_, ?_, ?_, hu, .inl ⟨hf, hc⟩⟩ <;>
    cases h : c.code <;> simp_all [CommandCode.writeClass, CommandCode.medium]

theorem chains_read (hu : c.unit = f.unit) (hf : f.writeClass = false) (hc : c.code.readClass = true) (hl : c.code ≠ .locate)
    (hr : c.reverse = f.reverse) : chains f c = true := by
  refine chains_iff.mpr ⟨?_, ?_, ?_, hl, hu, .inr ⟨hf, hc, hr⟩⟩ <;> cases h : c.code <;>
    simp_all [CommandCode.readClass, CommandCode.medium]

/-- A head that is a REWIND, UNLOAD, LOCATE or non-medium command, of another unit, class or direction, does not chain. -/
theorem chains_eq_false
    (h : c.unit ≠ f.unit ∨ c.code = .rewind ∨ c.code = .unload ∨ c.code = .locate ∨ c.code.medium = false ∨
      c.code.writeClass ≠ f.writeClass ∨ (f.writeClass = false ∧ c.reverse ≠ f.reverse)) : chains f c = false := by
  refine Bool.eq_false_iff.mpr fun hch => ?_
  obtain ⟨h1, h2, h3, h4, h5, h6⟩ := chains_iff.mp hch
  rcases h with h | h | h | h | h | h | ⟨hf, h⟩
  · exact h h5
  · exact h2 h
  · exact h3 h
  · exact h4 h
  · simp [h1] at h
  · rcases h6 with ⟨k1, k2⟩ | ⟨k1, k2, -⟩
    · exact h (k2.trans k1.symm)
    · exact h ((writeClass_of_readClass k2).trans k1.symm)
  · rcases h6 with ⟨k1, -⟩ | ⟨-, -, k3⟩
    · simp [hf] at k1
    · exact h k3

/-- The chained command as it is formed. -/
def chainedActive (c : Command) (stale : Bool) (l : UnitLink) : Active :=
  noteEndMarker { formActive c false stale l.profile with loadPointAtStart := l.lines.loadPoint } l.lines

theorem chainedActive_facts (hc : c.code.writeClass = true ∨ c.code.readClass = true) (stale : Bool) (l : UnitLink) :
    (chainedActive c stale l).cmd = c ∧ (chainedActive c stale l).reverse = c.reverse ∧
      (chainedActive c stale l).profile = l.profile ∧ (chainedActive c stale l).fromRest = false ∧
      (chainedActive c stale l).loadPointAtStart = l.lines.loadPoint ∧ (chainedActive c stale l).copyCounter = 0 ∧
      (chainedActive c stale l).ordinal = none ∧ (chainedActive c stale l).passed = 0 ∧
      (chainedActive c stale l).abortMark = false ∧
      (chainedActive c stale l).qualifiers.endWarning = (!c.reverse && l.lines.endMarker) := by
  unfold chainedActive
  rw [noteEndMarker_eq]
  refine ⟨rfl, rfl, rfl, rfl, rfl, rfl, rfl, rfl, rfl, ?_⟩
  have h : (c.code.writeClass || c.code.readClass) = true := by simpa using hc
  simp [formActive, Qualifiers.empty, h]

/-- The reader's settings at a chain (R53, R81, R96). -/
def chainedReader (c : Command) (l : UnitLink) (fr : FrameReader) : FrameReader :=
  { fr with account := { ReadAccount.empty with receiving := c.code.receives } }.settings c l.profile

theorem chainCommand_write (hc : c.code.writeClass = true) :
    chainCommand c s =
      enterPhase (chainedActive c (s.bu.atStart c).2 (s.link c.unit)) .chained none
        (truncateCatalogue c.unit (((beginCommand c s).1).setFr (chainedReader c (s.link c.unit) s.fr))) := by
  unfold chainCommand
  exact if_pos hc

theorem chainCommand_read (hc : c.code.writeClass = false) :
    chainCommand c s =
      enterPhase (chainedActive c (s.bu.atStart c).2 (s.link c.unit)) (if s.fr.record.isSome then .record else .search) none
        (((beginCommand c s).1).setFr
          { chainedReader c (s.link c.unit) s.fr with search := if s.fr.record.isSome then s.fr.search else some 0 }) := by
  unfold chainCommand
  refine (if_neg (by simp [hc])).trans ?_
  cases hr : s.fr.record with
  | none => exact if_neg (by simp [beginCommand_eq, FrameReader.settings, hr])
  | some o => exact if_pos (by simp [beginCommand_eq, FrameReader.settings, hr])

theorem takeEndOfFinish_chains (hoc : s.oc = .finishing f) (hdue : s.timer.due = true) (hq : s.cu.queue = c :: rest)
    (hheld : s.cmp.held = none) (hch : chains f c = true) :
    takeEndOfFinish s = chainCommand c (s.setCu { s.cu with queue := rest }) := by
  simp only [takeEndOfFinish, hoc, hdue, hq, hch, hheld, Option.isNone_none, Bool.and_self, if_true]

theorem takeEndOfFinish_stops (hoc : s.oc = .finishing f) (hdue : s.timer.due = true)
    (h : s.cu.queue = [] ∨ s.cmp.held.isSome = true ∨ ∃ c rest, s.cu.queue = c :: rest ∧ chains f c = false) :
    takeEndOfFinish s = enterStopping (sendStop s) := by
  simp only [takeEndOfFinish, hoc, hdue, if_true]
  cases hq : s.cu.queue with
  | nil => rfl
  | cons c rest =>
    refine if_neg ?_
    rcases h with h | h | ⟨c', rest', hq', h⟩
    · simp [hq] at h
    · cases hh : s.cmp.held <;> simp_all
    · cases hq.symm.trans hq'
      simp [h]

/-- Settles O56: the chain of a write, the chain of a read, and the stop. -/
theorem endOfFinishChainsOrStops : Obligations.EndOfFinishChainsOrStops := by
  intro f n k s hund hoc ht hk hle
  have hdue := PhaseTimer.due_of ht hk hle
  have row {t : State} (h : takeEndOfFinish s = t) : exec .endOfFinish s = .next t :=
    congrArg Host.Outcome.next ((event_of_undisturbed s takeEndOfFinish hund).trans h)
  refine ⟨fun c rest hq hu hheld => ⟨fun hf hc => ?write, fun hf hc hl hr => ?read⟩, fun h => ?stop⟩
  case write =>
    obtain ⟨h1, h2, h3, h4, h5, h6, h7, h8, h9, h10⟩ := chainedActive_facts (.inl hc) (s.bu.atStart c).2 (s.link c.unit)
    have hreceives : c.code.receives = false := by
      cases hcode : c.code <;> first | rfl | (rw [hcode] at hc; cases hc)
    refine ⟨_, row ((takeEndOfFinish_chains hoc hdue hq hheld (chains_write hu hf hc)).trans (chainCommand_write hc)), _, rfl,
      ⟨rfl, h1, h2, h3, h4, h5, h6, h7, h8, h9, h10, rfl, rfl, rfl, rfl, rfl⟩, rfl, ?_, ?_⟩
    · exact State.catalogue_setCatalogue _ c.unit _
    · change ({ s.fr with account := { ReadAccount.empty with receiving := c.code.receives } } : FrameReader).settings c
        (s.link c.unit).profile = _
      rw [hreceives, FrameReader.settings, readClass_of_writeClass hc]
      rfl
  case read =>
    obtain ⟨h1, h2, h3, h4, h5, h6, h7, h8, h9, h10⟩ := chainedActive_facts (.inr hc) (s.bu.atStart c).2 (s.link c.unit)
    refine ⟨_, row ((takeEndOfFinish_chains hoc hdue hq hheld (chains_read hu hf hc hl hr)).trans
      (chainCommand_read (writeClass_of_readClass hc))), _, rfl,
      ⟨rfl, h1, h2, h3, h4, h5, h6, h7, h8, h9, h10, rfl, rfl, rfl, rfl, rfl⟩, rfl, rfl, ?_, fun hcode => atStart_fill hcode⟩
    change ({ chainedReader c (s.link c.unit) s.fr with
      search := if s.fr.record.isSome then s.fr.search else some 0 } : FrameReader) = _
    simp only [chainedReader, FrameReader.settings, hc, if_true, receives_eq]
    rfl
  case stop =>
    have hstop : takeEndOfFinish s = enterStopping (sendStop s) :=
      takeEndOfFinish_stops hoc hdue
        (h.imp_right (Or.imp_right fun ⟨c, rest, hq, hno⟩ => ⟨c, rest, hq, chains_eq_false hno⟩))
    refine ⟨_, row hstop, (enterStopping_cu _).trans (sendStop_cu s), (enterStopping_cmp _).trans (sendStop_cmp s),
      (enterStopping_bu _).trans (sendStop_bu s), stops_enterStopping rfl, fun hst => ?_⟩
    obtain ⟨-, -, -, -, -, -, -, -, -, -, -, hexplicit⟩ := enterStopping_blocks (sendStop s)
    rw [hexplicit hst]
    exact sendStop_fw s

end Chain

/-! ### The start from rest (R46, R47, R153) -/

section Start
variable {s z : State} {a : Active} {c : Command} {rest : List Command} {l : Lines}

theorem exec_startFromRest (hund : s.undisturbed = true) (hp : s.hw.resetPending = false) (hq : s.cu.queue = c :: rest)
    (hm : c.code.medium = true) (hoc : s.oc = .idle) (hheld : s.cmp.held = none) :
    exec .startFromRest s = .next (startCommand c (s.setCu { s.cu with queue := rest })) := by
  refine congrArg Host.Outcome.next ((event_of_undisturbed s takeStart hund).trans ?_)
  simp only [takeStart, hq, hoc, hm, hheld, hp]
  rfl

/-- The granted unit selected and the reader set for the command (R46, R81). -/
def granted (c : Command) (s : State) : State :=
  ((beginCommand c s).1.setTlc { s.tlc with selected := some c.unit }).setFr (chainedReader c (s.link c.unit) s.fr)

/-- The command at its checks, its plan made (R54). -/
def atChecks (c : Command) (s : State) : Active :=
  withPlan (formActive c true (s.bu.atStart c).2 (s.link c.unit).profile) s

theorem startCommand_of_refused {o : CmdOutcome} (h : grantRefusal (s.link c.unit).state = some o) :
    startCommand c s =
      postAtStart (formActive c true (s.bu.atStart c).2 (s.link c.unit).profile) o false (beginCommand c s).1 := by
  unfold startCommand
  dsimp only
  rw [show ((beginCommand c s).1.link c.unit).state = (s.link c.unit).state from rfl, h]
  rfl

theorem startCommand_of_granted (h : (s.link c.unit).state = .idle) :
    startCommand c s =
      match startCheck (atChecks c s) (s.link c.unit).lines with
      | some (o, atLoadPoint) =>
        releaseUnit (postAtStart (atChecks c s) o atLoadPoint (if atLoadPoint then takeLoadPoint c.unit (granted c s) else granted c s))
      | none => leaveStart (atChecks c s) (granted c s) := by
  unfold startCommand
  dsimp only
  rw [show ((beginCommand c s).1.link c.unit).state = .idle from h]
  rfl

theorem startCommand_of_failed {o : CmdOutcome} {alp : Bool} (h : (s.link c.unit).state = .idle)
    (hc : startCheck (atChecks c s) (s.link c.unit).lines = some (o, alp)) :
    startCommand c s =
      releaseUnit (postAtStart (atChecks c s) o alp (if alp then takeLoadPoint c.unit (granted c s) else granted c s)) := by
  rw [startCommand_of_granted h, hc]

theorem startCommand_of_passed (h : (s.link c.unit).state = .idle)
    (hc : startCheck (atChecks c s) (s.link c.unit).lines = none) :
    startCommand c s = leaveStart (atChecks c s) (granted c s) := by
  rw [startCommand_of_granted h, hc]

/-! ### The checks (R46) -/

theorem withPlan_of_not_locate (h : a.cmd.code ≠ .locate) : withPlan a s = a := if_neg h

theorem withPlan_of_locate (h : a.cmd.code = .locate) :
    withPlan a s =
      { a with
        plan := some ((s.catalogue a.cmd.unit).plan a.cmd.arg)
        reverse := (match (s.catalogue a.cmd.unit).plan a.cmd.arg with | .space _ r => r | _ => false) } := if_pos h

/-- The plan and the direction of the command at its checks. -/
theorem atChecks_facts (c : Command) (s : State) :
    (atChecks c s).cmd = c ∧ (atChecks c s).profile = (s.link c.unit).profile ∧ (atChecks c s).ordinal = none ∧
      (atChecks c s).copyCounter = 0 ∧ (atChecks c s).passed = 0 ∧ (atChecks c s).qualifiers.endWarning = false ∧
      (c.code ≠ .locate → (atChecks c s).plan = none ∧ (atChecks c s).reverse = c.reverse) ∧
      (c.code = .locate → (atChecks c s).plan = some ((s.catalogue c.unit).plan c.arg)) ∧
      (atChecks c s).reverse =
        (if c.code = .locate then (match (s.catalogue c.unit).plan c.arg with | .space _ r => r | _ => false) else c.reverse) := by
  unfold atChecks
  by_cases h : c.code = .locate
  · rw [withPlan_of_locate h]
    exact ⟨rfl, rfl, rfl, rfl, rfl, rfl, fun hn => absurd h hn, fun _ => rfl, (if_pos h).symm⟩
  · rw [withPlan_of_not_locate h]
    exact ⟨rfl, rfl, rfl, rfl, rfl, rfl, fun _ => ⟨rfl, rfl⟩, fun hl => absurd hl h, (if_neg h).symm⟩

theorem startCheck_of_write (hw : a.cmd.code.writeClass = true) (hplan : a.plan = none) :
    startCheck a l =
      if l.writePermit = false then some (.writeProtected, false)
      else if l.endLine = true then some (.endOfMedium, false) else none := by
  have hr := readClass_of_writeClass hw
  have hcode : a.cmd.code ≠ .rewind := fun h => by simp [h, CommandCode.writeClass] at hw
  unfold startCheck
  cases l.writePermit <;> cases l.endLine <;> simp [hw, hr, hcode, hplan]

theorem startCheck_of_read (hr : a.cmd.code.readClass = true) :
    startCheck a l =
      if (a.reverse = false ∧ a.plan ≠ some .zero) ∧ l.endLine = true then some (.endOfMedium, false)
      else if a.reverse = true ∧ l.loadPoint = true then some (.loadPoint, false)
      else if a.plan = some .zero then some (.done, false) else none := by
  have hw := writeClass_of_readClass hr
  have hcode : a.cmd.code ≠ .rewind := fun h => by simp [h, CommandCode.readClass] at hr
  unfold startCheck
  simp [hw, hr, hcode]

theorem startCheck_of_neither (hw : a.cmd.code.writeClass = false) (hr : a.cmd.code.readClass = false) (hplan : a.plan = none) :
    startCheck a l = if a.cmd.code = .rewind ∧ l.loadPoint = true then some (.done, true) else none := by
  unfold startCheck
  simp [hw, hr, hplan]

/-! ### The posting at start (R153) -/

/-- A completion posted in START: no ordinal, zero in every count, no END WARNING; the buffer OPEN and nothing else moved. -/
theorem postAtStart_blocks (a : Active) (o : CmdOutcome) (alp : Bool) (z : State) :
    (postAtStart a o alp z).cu = z.cu ∧ (postAtStart a o alp z).oc = .idle ∧ (postAtStart a o alp z).tlc = z.tlc ∧
      (postAtStart a o alp z).fw = z.fw ∧ (postAtStart a o alp z).rc = z.rc ∧
      (∃ r, (postAtStart a o alp z).cmp = z.cmp.place r ∧ r.tag = a.cmd.tag ∧ r.code = a.cmd.code ∧ r.unit = a.cmd.unit ∧
        r.outcome = o ∧ r.ordinal = none ∧ r.copies = 0 ∧ r.byteCount = 0 ∧ r.passed = 0 ∧ r.qualifiers.atLoadPoint = alp ∧
        r.qualifiers.endWarning = a.qualifiers.endWarning) ∧
      (a.cmd.code.namesBuffer = true → ((postAtStart a o alp z).bu.buffer a.cmd.buffer).committed = false) ∧
      ((postAtStart a o alp z).bu.buffer a.cmd.buffer).fill = (z.bu.buffer a.cmd.buffer).fill := by
  have hb := post_buffer z a.cmd { Completion.bare a.cmd o with qualifiers := { a.qualifiers with atLoadPoint := alp } } a.cmd.buffer
  refine ⟨rfl, rfl, rfl, rfl, rfl, ?_, fun hn => ?_, (congrArg RecordBuffer.fill hb :)⟩
  · refine ⟨if (z.bu.atPosting a.cmd z.cu.queue).2 then
        { Completion.bare a.cmd o with
          qualifiers := { a.qualifiers with atLoadPoint := alp, staleDiscarded := true } }
      else { Completion.bare a.cmd o with qualifiers := { a.qualifiers with atLoadPoint := alp } }, rfl, ?_⟩
    split <;> exact ⟨rfl, rfl, rfl, rfl, rfl, rfl, rfl, rfl, rfl, rfl⟩
  · exact (congrArg RecordBuffer.committed hb).trans (by simp [Command.owns, hn])

/-- The completion `t` posts in START for the head `c`. -/
def PostsAtStart (c : Command) (o : CmdOutcome) (alp : Bool) (s t : State) : Prop :=
  ∃ r, t.cmp = s.cmp.place r ∧ r.tag = c.tag ∧ r.code = c.code ∧ r.unit = c.unit ∧
    r.outcome = o ∧ r.ordinal = none ∧ r.copies = 0 ∧ r.byteCount = 0 ∧ r.passed = 0 ∧
    r.qualifiers.atLoadPoint = alp ∧ r.qualifiers.endWarning = false ∧
    (c.code.namesBuffer = true → (t.bu.buffer c.buffer).committed = false) ∧
    (c.code = .read → (t.bu.buffer c.buffer).fill = 0)

theorem postAtStart_posts {o : CmdOutcome} {alp : Bool} {t : State} (ha : a.cmd = c) (hq : a.qualifiers.endWarning = false)
    (hcmp : z.cmp = s.cmp) (hfill : c.code = .read → (z.bu.buffer c.buffer).fill = 0)
    (htcmp : t.cmp = (postAtStart a o alp z).cmp) (htbu : t.bu = (postAtStart a o alp z).bu) : PostsAtStart c o alp s t := by
  obtain ⟨-, -, -, -, -, ⟨r, h1, h2, h3, h4, h5, h6, h7, h8, h9, h10, h11⟩, h12, h13⟩ := postAtStart_blocks a o alp z
  subst ha
  exact ⟨r, htcmp.trans (by rw [h1, hcmp]), h2, h3, h4, h5, h6, h7, h8, h9, h10, h11.trans hq, by rw [htbu]; exact h12,
    fun hc => by rw [htbu, h13]; exact hfill hc⟩

/-- A refused grant posts with nothing moved. -/
theorem startCommand_refused_posts {o : CmdOutcome} (h : grantRefusal (s.link c.unit).state = some o) :
    (startCommand c s).cu = s.cu ∧ (startCommand c s).oc = .idle ∧ (startCommand c s).tlc = s.tlc ∧ (startCommand c s).fw = s.fw ∧
      (startCommand c s).rc = s.rc ∧ PostsAtStart c o false s (startCommand c s) := by
  rw [startCommand_of_refused h]
  obtain ⟨h1, h2, h3, h4, h5, -⟩ := postAtStart_blocks (formActive c true (s.bu.atStart c).2 (s.link c.unit).profile) o false
    (beginCommand c s).1
  exact ⟨h1, h2, h3, h4, h5, postAtStart_posts (s := s) (z := (beginCommand c s).1)
    (a := formActive c true (s.bu.atStart c).2 (s.link c.unit).profile) rfl rfl rfl (fun hc => atStart_fill hc) rfl rfl⟩

/-- The link and the writer once the selection is released (R23). -/
def TransportLink.released (t : TransportLink) : TransportLink :=
  { t with selected := none, atSpeedTimer := false, acceptanceTimer := false, stopTimer := false }

def FrameWriter.released (f : FrameWriter) : FrameWriter := { f with gate := false }

theorem releaseUnit_postAtStart_blocks (a : Active) (o : CmdOutcome) (alp : Bool) (z : State) :
    (releaseUnit (postAtStart a o alp z)).cu = z.cu ∧ (releaseUnit (postAtStart a o alp z)).oc = .idle ∧
      (releaseUnit (postAtStart a o alp z)).tlc = z.tlc.released ∧ (releaseUnit (postAtStart a o alp z)).fw = z.fw.released ∧
      (releaseUnit (postAtStart a o alp z)).rc = z.rc := ⟨rfl, rfl, rfl, rfl, rfl⟩

theorem granted_blocks (c : Command) (s : State) :
    (granted c s).cu = s.cu ∧ (granted c s).tlc.released = s.tlc.released ∧ (granted c s).fw = s.fw ∧ (granted c s).rc = s.rc :=
  ⟨rfl, rfl, rfl, rfl⟩

theorem takeLoadPoint_fw (u : UnitId) (s : State) : (takeLoadPoint u s).fw = s.fw := rfl

theorem takeLoadPoint_rc_congr (h : z.rc = s.rc) (u : UnitId) : (takeLoadPoint u z).rc = (takeLoadPoint u s).rc := by
  simp only [takeLoadPoint, State.setCatalogue, State.catalogue, h]
  rfl

/-- A failing check posts with the selection empty and the gate OFF; at the load point the catalogue is anchored. -/
theorem startCommand_failed_posts {o : CmdOutcome} {alp : Bool} (h : (s.link c.unit).state = .idle)
    (hc : startCheck (atChecks c s) (s.link c.unit).lines = some (o, alp)) :
    (startCommand c s).cu = s.cu ∧ (startCommand c s).oc = .idle ∧
      (startCommand c s).tlc =
        { s.tlc with selected := none, atSpeedTimer := false, acceptanceTimer := false, stopTimer := false } ∧
      (startCommand c s).fw = { s.fw with gate := false } ∧
      (startCommand c s).rc = (if alp then takeLoadPoint c.unit s else s).rc ∧ PostsAtStart c o alp s (startCommand c s) := by
  obtain ⟨hcmd, -, -, -, -, hq, -⟩ := atChecks_facts c s
  rw [startCommand_of_failed h hc]
  have hposts {z : State} (hcmp : z.cmp = s.cmp) (hbu : z.bu = (s.bu.atStart c).1) :
      PostsAtStart c o alp s (releaseUnit (postAtStart (atChecks c s) o alp z)) :=
    postAtStart_posts (z := z) hcmd hq hcmp (fun hc => by rw [hbu]; exact atStart_fill hc) rfl rfl
  obtain ⟨gcu, gtlc, gfw, grc⟩ := granted_blocks c s
  cases alp with
  | false =>
    obtain ⟨h1, h2, h3, h4, h5⟩ := releaseUnit_postAtStart_blocks (atChecks c s) o false (granted c s)
    exact ⟨h1.trans gcu, h2, h3.trans gtlc, h4.trans (by rw [gfw]; rfl), h5.trans grc, hposts rfl rfl⟩
  | true =>
    obtain ⟨h1, h2, h3, h4, h5⟩ := releaseUnit_postAtStart_blocks (atChecks c s) o true (takeLoadPoint c.unit (granted c s))
    exact ⟨h1.trans gcu, h2, h3.trans gtlc, h4.trans (by rw [takeLoadPoint_fw, gfw]; rfl), h5.trans (takeLoadPoint_rc_congr grc _),
      hposts rfl rfl⟩

/-! ### Leaving START (R47, R63, R132, R133) -/

/-- The motion request, the gate and READBACK of a write, and the phase (R47, R63, R81). -/
def setOff (write : Bool) (b : Active) (p : Phase) (q : MotionRequest) (u : UnitId) (z : State) : State :=
  let s := sendMotion u q z
  let s := if write then s.setFw { s.fw with gate := true } else s
  let s := if write then s.setFr { s.fr with mode := .readback } else s
  enterPhase b p none s

theorem setOff_blocks (write : Bool) (b : Active) (p : Phase) (q : MotionRequest) (u : UnitId) (z : State) :
    (setOff write b p q u z).oc = .active { b with phase := p } ∧ (setOff write b p q u z).cu = z.cu ∧
      (setOff write b p q u z).cmp = z.cmp ∧ (setOff write b p q u z).tlc.selected = z.tlc.selected ∧
      (setOff write b p q u z).tlc.request = some q ∧
      (setOff write b p q u z).tlc.atSpeedTimer = !(decide (q = .rewind) || decide (q = .unload)) ∧
      (setOff write b p q u z).tlc.acceptanceTimer = (decide (q = .rewind) || decide (q = .unload)) ∧
      (setOff write b p q u z).tlc.stopTimer = false ∧ ((setOff write b p q u z).link u).state = .ramping ∧
      (setOff write b p q u z).fw = (if write then { z.fw with gate := true } else z.fw) ∧
      (setOff write b p q u z).fr = (if write then { z.fr with mode := .readback } else z.fr) ∧
      (setOff write b p q u z).rc = z.rc := by
  have hlink : ((sendMotion u q z).link u).state = .ramping := congrArg UnitLink.state (State.link_setLink z u _)
  cases write <;> exact ⟨rfl, rfl, rfl, rfl, rfl, rfl, rfl, rfl, hlink, rfl, rfl, rfl⟩

/-- The command as it leaves START (R43, R47). -/
def Active.departing (a : Active) (l : Lines) : Active :=
  { a with
    loadPointAtStart := l.loadPoint
    qualifiers :=
      { a.qualifiers with
        endWarning :=
          a.qualifiers.endWarning || ((a.cmd.code.writeClass || a.cmd.code.readClass) && !a.reverse && l.endMarker) } }

/-- The catalogue as the command leaves START: anchored at the load point, truncated by a write (R132, R133). -/
def departureCatalogue (a : Active) (z : State) : State :=
  let u := a.cmd.unit
  let moves := a.cmd.code.writeClass || a.cmd.code.readClass
  let s := if moves && !a.reverse && (z.link u).lines.loadPoint then takeLoadPoint u z else z
  if a.cmd.code.writeClass then truncateCatalogue u s else s

theorem leaveStart_eq (a : Active) (z : State) :
    leaveStart a z =
      setOff a.cmd.code.writeClass (a.departing (z.link a.cmd.unit).lines)
        (if a.cmd.code.writeClass || a.cmd.code.readClass then .ramp else .acceptance) (motionOf a) a.cmd.unit
        (departureCatalogue a z) := by
  unfold leaveStart
  dsimp only
  rewrite [noteEndMarker_eq]
  rfl

theorem departureCatalogue_blocks (a : Active) (z : State) :
    (departureCatalogue a z).cu = z.cu ∧ (departureCatalogue a z).cmp = z.cmp ∧ (departureCatalogue a z).tlc = z.tlc ∧
      (departureCatalogue a z).fw = z.fw ∧ (departureCatalogue a z).fr = z.fr ∧
      (departureCatalogue a z).rc.nextOrdinals = z.rc.nextOrdinals := by
  unfold departureCatalogue
  dsimp only
  split <;> split <;> exact ⟨rfl, rfl, rfl, rfl, rfl, rfl⟩

end Start

end Sys2Proof.Machine
end

section
/-! PROOF. A command that passes its start checks (R29, R47, R63, R96, R132, R133, R174). -/

namespace Sys2Proof.Machine

section Departs
variable {s z : State} {a : Active} {c : Command} {rest : List Command} {l : Lines}

/-- The catalogue of the command's unit as it leaves START. -/
theorem departureCatalogue_of_write (hw : a.cmd.code.writeClass = true) (hr : a.reverse = false) :
    (departureCatalogue a z).catalogue a.cmd.unit =
      (if (z.link a.cmd.unit).lines.loadPoint then (z.catalogue a.cmd.unit).atLoadPoint else z.catalogue a.cmd.unit).truncate := by
  cases hl : (z.link a.cmd.unit).lines.loadPoint <;>
    simp [departureCatalogue, hw, hr, hl, truncateCatalogue, takeLoadPoint]

theorem departureCatalogue_of_moving (hw : a.cmd.code.writeClass = false) :
    departureCatalogue a z =
      if a.cmd.code.readClass && !a.reverse && (z.link a.cmd.unit).lines.loadPoint then takeLoadPoint a.cmd.unit z else z := by
  simp [departureCatalogue, hw]

theorem truncate_atLoadPoint (k : Catalogue) : k.atLoadPoint.truncate = { state := .anchored, entries := [], position := 0 } := rfl

/-- The command `a` under way from rest in `t`: its phase, its request and its timer (R47). -/
def Departed (c : Command) (q : MotionRequest) (p : Phase) (accept : Bool) (s t : State) (a : Active) : Prop :=
  t.oc = .active a ∧ a.cmd = c ∧
    a.phase = p ∧ a.profile = (s.link c.unit).profile ∧ a.ordinal = none ∧ a.copyCounter = 0 ∧ a.passed = 0 ∧
    a.loadPointAtStart = (s.link c.unit).lines.loadPoint ∧ t.tlc.selected = some c.unit ∧ t.tlc.request = some q ∧
    t.tlc.atSpeedTimer = !accept ∧ t.tlc.acceptanceTimer = accept ∧ t.tlc.stopTimer = false ∧
    (t.link c.unit).state = .ramping ∧ t.rc.nextOrdinals = s.rc.nextOrdinals ∧ t.cmp = s.cmp

/-- The command with its END WARNING, as it is active after the start. -/
def departed (c : Command) (s : State) (p : Phase) : Active :=
  { (atChecks c s).departing (s.link c.unit).lines with phase := p }

theorem departed_facts (c : Command) (s : State) (p : Phase) :
    (departed c s p).reverse = (atChecks c s).reverse ∧
      (departed c s p).qualifiers.endWarning =
        ((c.code.writeClass || c.code.readClass) && !(atChecks c s).reverse && (s.link c.unit).lines.endMarker) := by
  obtain ⟨hcmd, -, -, -, -, hq, -⟩ := atChecks_facts c s
  refine ⟨rfl, ?_⟩
  change ((atChecks c s).qualifiers.endWarning || _) = _
  rw [hq, hcmd, Bool.false_or]

/-- What a command that passes its checks leaves (R47). -/
theorem startCommand_departs {q : MotionRequest} {p : Phase} (h : (s.link c.unit).state = .idle)
    (hc : startCheck (atChecks c s) (s.link c.unit).lines = none) (hq : motionOf (atChecks c s) = q)
    (hp : (if c.code.writeClass || c.code.readClass then Phase.ramp else .acceptance) = p) :
    (startCommand c s).cu = s.cu ∧
      Departed c q p (decide (q = .rewind) || decide (q = .unload)) s (startCommand c s) (departed c s p) ∧
      (startCommand c s).fw = (if c.code.writeClass then { s.fw with gate := true } else s.fw) ∧
      (startCommand c s).fr =
        (if c.code.writeClass then { chainedReader c (s.link c.unit) s.fr with mode := .readback }
        else chainedReader c (s.link c.unit) s.fr) ∧
      (startCommand c s).rc = (departureCatalogue (atChecks c s) (granted c s)).rc := by
  obtain ⟨hcmd, hprofile, hord, hcopy, hpassed, -⟩ := atChecks_facts c s
  obtain ⟨k1, k2, k3, k4, k5, k6⟩ := departureCatalogue_blocks (atChecks c s) (granted c s)
  have heq : startCommand c s =
      setOff c.code.writeClass ((atChecks c s).departing (s.link c.unit).lines) p q c.unit
        (departureCatalogue (atChecks c s) (granted c s)) := by
    rw [startCommand_of_passed h hc, leaveStart_eq, hq, hcmd, hp]
    rfl
  obtain ⟨s1, s2, s3, s4, s5, s6, s7, s8, s9, s10, s11, s12⟩ :=
    setOff_blocks c.code.writeClass ((atChecks c s).departing (s.link c.unit).lines) p q c.unit
      (departureCatalogue (atChecks c s) (granted c s))
  rewrite [← heq] at s1 s2 s3 s4 s5 s6 s7 s8 s9 s10 s11 s12
  refine ⟨s2.trans k1, ⟨s1, hcmd, rfl, hprofile, hord, hcopy, hpassed, rfl, s4.trans (congrArg TransportLink.selected k3), s5, s6, s7,
    s8, s9, (congrArg RecordCatalogue.nextOrdinals s12).trans k6, s3.trans k2⟩, ?_, ?_, s12⟩
  · rw [s10, k4]
    rfl
  · rw [s11, k5]
    rfl

theorem chainedReader_mode (c : Command) (k : UnitLink) (fr : FrameReader) :
    (chainedReader c k fr).mode = fr.mode ∧
      (chainedReader c k fr).account.receiving = (decide (c.code = .read) || decide (c.code = .readStream)) :=
  ⟨rfl, receives_eq c.code⟩

theorem motionOf_of_read (hr : a.cmd.code.readClass = true) : motionOf a = if a.reverse then .reverse else .forward := by
  have hw := writeClass_of_readClass hr
  have h1 : a.cmd.code ≠ .rewind := fun h => by simp [h, CommandCode.readClass] at hr
  have h2 : a.cmd.code ≠ .unload := fun h => by simp [h, CommandCode.readClass] at hr
  simp [motionOf, hw, h1, h2]

/-! ### The three classes -/

theorem startCommand_write (h : (s.link c.unit).state = .idle) (hw : c.code.writeClass = true) (hrev : c.reverse = false)
    (hp : (s.link c.unit).lines.writePermit = true) (he : (s.link c.unit).lines.endLine = false) :
    ∃ a, (startCommand c s).cu = s.cu ∧ Departed c .forwardWrite .ramp false s (startCommand c s) a ∧
      (startCommand c s).fw = { s.fw with gate := true } ∧ (startCommand c s).fr.mode = .readback ∧
      a.qualifiers.endWarning = (s.link c.unit).lines.endMarker ∧
      ((s.link c.unit).lines.loadPoint = false → (startCommand c s).catalogue c.unit = (s.catalogue c.unit).truncate) ∧
      ((s.link c.unit).lines.loadPoint = true →
        (startCommand c s).catalogue c.unit = { state := .anchored, entries := [], position := 0 }) := by
  obtain ⟨hcmd, -, -, -, -, -, hplan, -, hreverse⟩ := atChecks_facts c s
  have hloc : c.code ≠ .locate := fun k => by simp [k, CommandCode.writeClass] at hw
  have hback : (atChecks c s).reverse = false := hreverse.trans ((if_neg hloc).trans hrev)
  have hcheck : startCheck (atChecks c s) (s.link c.unit).lines = none := by
    rw [startCheck_of_write (by rw [hcmd]; exact hw) (hplan hloc).1, hp, he]
    rfl
  obtain ⟨h1, h2, h3, h4, h5⟩ := startCommand_departs h hcheck (q := .forwardWrite) (p := .ramp)
    (if_pos (by rw [hcmd]; exact hw)) (by simp [hw])
  have hcat := departureCatalogue_of_write (z := granted c s) (by rw [hcmd]; exact hw) hback
  rewrite [hcmd] at hcat
  replace hcat := (congrArg (fun r => r.catalogues.get c.unit) h5).trans hcat
  refine ⟨_, h1, h2, h3.trans (if_pos hw), ?_, ?_, fun hl => ?_, fun hl => ?_⟩
  · rw [h4, if_pos hw]
  · rw [(departed_facts c s .ramp).2, hw, hback]
    rfl
  · refine hcat.trans (congrArg Catalogue.truncate (if_neg ?_))
    exact (by rw [show ((granted c s).link c.unit) = s.link c.unit from rfl, hl]; exact Bool.false_ne_true)
  · exact hcat.trans ((congrArg Catalogue.truncate (if_pos hl)).trans (truncate_atLoadPoint _))

theorem startCommand_read {q : MotionRequest} (h : (s.link c.unit).state = .idle) (hr : c.code.readClass = true)
    (hcheck : startCheck (atChecks c s) (s.link c.unit).lines = none)
    (hq : (if (atChecks c s).reverse then MotionRequest.reverse else .forward) = q) :
    ∃ a, (startCommand c s).cu = s.cu ∧ Departed c q .ramp false s (startCommand c s) a ∧
      a.reverse = (atChecks c s).reverse ∧ (startCommand c s).fw = s.fw ∧ (startCommand c s).fr.mode = s.fr.mode ∧
      a.qualifiers.endWarning = (!(atChecks c s).reverse && (s.link c.unit).lines.endMarker) ∧
      (startCommand c s).fr.account.receiving = (decide (c.code = .read) || decide (c.code = .readStream)) ∧
      ((atChecks c s).reverse = false → (s.link c.unit).lines.loadPoint = true →
        (startCommand c s).rc = (takeLoadPoint c.unit s).rc) ∧
      ((atChecks c s).reverse = true ∨ (s.link c.unit).lines.loadPoint = false → (startCommand c s).rc = s.rc) := by
  obtain ⟨hcmd, -⟩ := atChecks_facts c s
  have hw := writeClass_of_readClass hr
  obtain ⟨h1, h2, h3, h4, h5⟩ := startCommand_departs h hcheck (q := q) (p := .ramp)
    ((motionOf_of_read (by rw [hcmd]; exact hr)).trans hq) (by simp [hr])
  have haccept : (decide (q = .rewind) || decide (q = .unload)) = false := by
    rw [← hq]
    cases (atChecks c s).reverse <;> rfl
  rewrite [haccept] at h2
  rewrite [hw] at h3 h4
  obtain ⟨m1, m2⟩ := chainedReader_mode c (s.link c.unit) s.fr
  refine ⟨_, h1, h2, (departed_facts c s .ramp).1, h3, (congrArg FrameReader.mode h4).trans m1, ?_,
    (congrArg (fun f => f.account.receiving) h4).trans m2, fun hrev hl => h5.trans ?_, fun hno => h5.trans ?_⟩
  · rw [(departed_facts c s .ramp).2, hr, hw]
    rfl
  · rw [departureCatalogue_of_moving (by rw [hcmd]; exact hw), hcmd, hr, hrev,
      show ((granted c s).link c.unit) = s.link c.unit from rfl, hl]
    exact takeLoadPoint_rc_congr rfl _
  · rw [departureCatalogue_of_moving (by rw [hcmd]; exact hw), hcmd, hr, if_neg]
    · rfl
    · rcases hno with h | h
      · simp [h]
      · simp [show ((granted c s).link c.unit) = s.link c.unit from rfl, h]

theorem startCommand_accepts {q : MotionRequest} (h : (s.link c.unit).state = .idle)
    (hk : c.code = .rewind ∧ q = .rewind ∧ (s.link c.unit).lines.loadPoint = false ∨ c.code = .unload ∧ q = .unload) :
    ∃ a, (startCommand c s).cu = s.cu ∧ Departed c q .acceptance true s (startCommand c s) a ∧ (startCommand c s).fw = s.fw ∧
      (startCommand c s).rc = s.rc := by
  obtain ⟨hcmd, -, -, -, -, -, hplan, -⟩ := atChecks_facts c s
  have hw : c.code.writeClass = false := by rcases hk with ⟨k, -⟩ | ⟨k, -⟩ <;> rw [k] <;> rfl
  have hr : c.code.readClass = false := by rcases hk with ⟨k, -⟩ | ⟨k, -⟩ <;> rw [k] <;> rfl
  have hloc : c.code ≠ .locate := by rcases hk with ⟨k, -⟩ | ⟨k, -⟩ <;> simp [k]
  have hcheck : startCheck (atChecks c s) (s.link c.unit).lines = none := by
    rw [startCheck_of_neither (by rw [hcmd]; exact hw) (by rw [hcmd]; exact hr) (hplan hloc).1, hcmd]
    rcases hk with ⟨-, -, hl⟩ | ⟨k, -⟩
    · simp [hl]
    · simp [k]
  obtain ⟨h1, h2, h3, -, h5⟩ := startCommand_departs h hcheck (q := q) (p := .acceptance)
    (by unfold motionOf; rw [hcmd, hw]; rcases hk with ⟨k, kq, -⟩ | ⟨k, kq⟩ <;> simp [k, kq]) (by simp [hw, hr])
  have haccept : (decide (q = .rewind) || decide (q = .unload)) = true := by
    rcases hk with ⟨-, kq, -⟩ | ⟨-, kq⟩ <;> rw [kq] <;> rfl
  rewrite [haccept] at h2
  rewrite [hw] at h3
  refine ⟨_, h1, h2, h3, h5.trans ?_⟩
  rw [departureCatalogue_of_moving (by rw [hcmd]; exact hw), hcmd, hr]
  rfl

end Departs

/-- Settles O57: a refused grant and a failing check post, and each class departs as it should. -/
theorem startFromRestRunsTheChecks : Obligations.StartFromRestRunsTheChecks := by
  intro c rest s hund hp hq hm hoc hheld l plan reverse noMotion anchored postsAtStart refused failed starts
  have row := exec_startFromRest hund hp hq hm hoc hheld
  obtain ⟨hcmd, -, -, -, -, -, hplan, hlocate, hreverse⟩ := atChecks_facts c (s.setCu { s.cu with queue := rest })
  have refuses (o : CmdOutcome) (h : grantRefusal (s.link c.unit).state = some o) : refused o := by
    obtain ⟨h1, h2, h3, h4, h5, r, h6, h⟩ := startCommand_refused_posts (s := s.setCu { s.cu with queue := rest }) h
    exact ⟨_, r, row, h1, h2, h3, h4, h5, h6, h⟩
  refine ⟨fun h => refuses _ (by rw [h]; rfl), fun h => refuses _ (by rw [h]; rfl),
    fun h => refuses _ (by rcases h with h | h <;> rw [h] <;> rfl), fun hidle => ?_⟩
  have fails (o : CmdOutcome)
      (h : startCheck (atChecks c (s.setCu { s.cu with queue := rest })) (s.link c.unit).lines = some (o, false)) : failed o := by
    obtain ⟨h1, h2, h3, h4, h5, r, h6, h⟩ := startCommand_failed_posts (s := s.setCu { s.cu with queue := rest }) hidle h
    exact ⟨_, r, row, h1, h2, h3, h4, h5, h6, h⟩
  refine ⟨fun hw => ?write, fun hr => ?read, fun hk => ⟨fun hl => ?atLoadPoint, fun hl => ?rewind⟩, fun hk => ?unload⟩
  case write =>
    have hloc : c.code ≠ .locate := fun k => by simp [k, CommandCode.writeClass] at hw
    have hcheck := startCheck_of_write (l := (s.link c.unit).lines) (by rw [hcmd]; exact hw) (hplan hloc).1
    refine ⟨fun hwp => fails _ (hcheck.trans (if_pos hwp)),
      fun hwp he => fails _ 
        (hcheck.trans ((if_neg (by rw [show (s.link c.unit).lines.writePermit = true from hwp]; exact nofun)).trans (if_pos he))),
      fun hwp he hrev => ?_⟩
    obtain ⟨a, h1, h2, h⟩ := startCommand_write (s := s.setCu { s.cu with queue := rest }) hidle hw hrev hwp he
    exact ⟨_, a, ⟨row, h1, h2⟩, h⟩
  case read =>
    have hcheck := startCheck_of_read (l := (s.link c.unit).lines) (a := atChecks c (s.setCu { s.cu with queue := rest }))
      (by rw [hcmd]; exact hr)
    have hback : (atChecks c (s.setCu { s.cu with queue := rest })).reverse = reverse := hreverse
    have hzero (h : c.code = .locate → plan ≠ .zero) :
        (atChecks c (s.setCu { s.cu with queue := rest })).plan ≠ some .zero := by
      by_cases k : c.code = .locate
      · rw [hlocate k]
        exact fun e => h k (Option.some.inj e)
      · rw [(hplan k).1]
        exact nofun
    have hforward (k : c.code = .locate) (hz : plan = .zero) : reverse = false :=
      (if_pos k).trans (congrArg (fun p : Plan => match p with | .space _ rev => rev | _ => false) hz)
    rewrite [hback] at hcheck
    refine ⟨fun hrev hnz he => ?_, fun hrev hl => ?_, fun k hz => ?_, fun hrev hnz he => ?_, fun hrev hl => ?_⟩
    · exact fails _ (hcheck.trans (if_pos ⟨⟨hrev, hzero hnz⟩, he⟩))
    · exact fails _ (hcheck.trans ((if_neg (by simp [hrev])).trans (if_pos ⟨hrev, hl⟩)))
    · have hz' : (atChecks c (s.setCu { s.cu with queue := rest })).plan = some .zero := by
        rw [hlocate k]
        exact congrArg some hz
      have hrev := hforward k hz
      exact fails _ (hcheck.trans ((if_neg (by simp [hz'])).trans ((if_neg (by simp [hrev])).trans (if_pos hz'))))
    · obtain ⟨a, h1, h2, h3, h4, h5, h6, h7, h8, h9⟩ := 
        startCommand_read (s := s.setCu { s.cu with queue := rest }) (q := .forward) hidle hr
        (hcheck.trans ((if_neg (by rw [show (s.link c.unit).lines.endLine = false from he]; simp)).trans
          ((if_neg (by simp [hrev])).trans (if_neg (hzero hnz)))))
        (by rw [hback, hrev]; rfl)
      rewrite [hback] at h3 h6 h8 h9
      rewrite [hrev] at h3 h6
      refine ⟨_, a, ⟨row, h1, h2⟩, h3, h4, h5, h6, h7, fun hl => ?_, fun hl => ?_⟩
      · exact h8 hrev hl
      · exact h9 (.inr hl)
    · have hnz : (atChecks c (s.setCu { s.cu with queue := rest })).plan ≠ some .zero :=
        hzero fun k hz => absurd (hrev.symm.trans (hforward k hz)) (by decide)
      obtain ⟨a, h1, h2, h3, h4, h5, h6, h7, h8, h9⟩ := 
          startCommand_read (s := s.setCu { s.cu with queue := rest }) (q := .reverse) hidle hr
        (hcheck.trans ((if_neg (by simp [hrev])).trans
          ((if_neg (by rw [show (s.link c.unit).lines.loadPoint = false from hl]; simp)).trans (if_neg hnz))))
        (by rw [hback, hrev]; rfl)
      rewrite [hback] at h3 h6 h9
      rewrite [hrev] at h3 h6
      exact ⟨_, a, ⟨row, h1, h2⟩, h3, h4, h9 (.inl hrev), h6⟩
  case atLoadPoint =>
    have hw : c.code.writeClass = false := by rw [hk]; rfl
    have hr : c.code.readClass = false := by rw [hk]; rfl
    have hcheck := startCheck_of_neither (l := (s.link c.unit).lines) (by rw [hcmd]; exact hw) (by rw [hcmd]; exact hr)
      (hplan (by simp [hk])).1
    obtain ⟨h1, h2, h3, h4, h5, r, h6, h⟩ := startCommand_failed_posts (s := s.setCu { s.cu with queue := rest }) hidle
      (hcheck.trans (if_pos ⟨by rw [hcmd]; exact hk, hl⟩))
    exact ⟨_, r, row, h1, h2, h3, h4, h5, h6, h⟩
  case rewind =>
    obtain ⟨a, h1, h2, h⟩ := startCommand_accepts (s := s.setCu { s.cu with queue := rest }) hidle (.inl ⟨hk, rfl, hl⟩)
    exact ⟨_, a, ⟨row, h1, h2⟩, h⟩
  case unload =>
    obtain ⟨a, h1, h2, h⟩ := startCommand_accepts (s := s.setCu { s.cu with queue := rest }) hidle (.inr ⟨hk, rfl⟩)
    exact ⟨_, a, ⟨row, h1, h2⟩, h⟩

end Sys2Proof.Machine
end

section
/-! PROOF. The pulses of the read lanes and the half-period point (R82, R83, R87). -/

namespace Sys2Proof.Machine

section Pulses
variable {s : State} {l : Lane} {strong : Bool}

/-- When a frame that opens now makes its run eligible (R87). -/
theorem eligibleNow_iff {rev : Bool} (hmode : s.fr.mode = .parse rev) :
    s.eligibleNow = true ↔
      rev = false ∧ (∃ a, s.oc = .active a ∧ (a.cmd.code = .read ∨ a.cmd.code = .readStream)) ∧
        s.fr.account.receiving = true ∧ ∀ o, s.fr.record = some o → o.received = false := by
  unfold State.eligibleNow
  cases hoc : s.oc with
  | active a =>
    simp only [Bool.and_eq_true, hmode, receives_eq, Bool.or_eq_true, decide_eq_true_eq, ReaderMode.parse.injEq,
      Operation.active.injEq, exists_eq_left']
    cases hrecord : s.fr.record <;> simp <;> tauto
  | idle => simp
  | finishing f => simp
  | stopping => simp

/-- A pulse that opens a frame: a strong one, or a weak one under weak start (R82). -/
theorem takeLanePulse_opens (hm : s.fr.mode ≠ .idle) (hf : s.fr.frame = none) (h : strong = true ∨ s.fr.weakStart = true) :
    takeLanePulse l strong s = openFrame l strong s := by
  have hopen : (strong || s.fr.weakStart) = true := by simpa using h
  unfold takeLanePulse
  rw [hf]
  cases hmode : s.fr.mode with
  | idle => exact absurd hmode hm
  | readback => exact if_pos hopen
  | parse rev => exact if_pos hopen

theorem takeLanePulse_disregarded (hf : s.fr.frame = none) (hstrong : strong = false) (hweak : s.fr.weakStart = false) :
    takeLanePulse l strong s = s := by
  unfold takeLanePulse
  rw [hf]
  cases s.fr.mode <;> simp [hstrong, hweak]

theorem takeLanePulse_joins {x : Assembly} (hm : s.fr.mode ≠ .idle) (hf : s.fr.frame = some x) :
    takeLanePulse l strong s = s.setFr { s.fr with frame := some (x.pulse l strong) } := by
  unfold takeLanePulse
  rw [hf]
  cases hmode : s.fr.mode with
  | idle => exact absurd hmode hm
  | readback => rfl
  | parse rev => rfl

/-- A frame that opens in PARSE joins the run in progress or begins one (R14, R85, R87). -/
theorem openFrame_parse {rev : Bool} (hm : s.fr.mode = .parse rev) (l : Lane) (strong : Bool) :
    openFrame l strong s =
      s.setFr
        { s.fr with
          frame := some (openAssembly l strong)
          run := (match s.fr.run with | some r => some r | none => some (Run.start s.eligibleNow))
          runCount := 0 } := by
  unfold openFrame
  dsimp only
  rewrite [hm]
  rfl

theorem openFrame_readback (hm : s.fr.mode = .readback) (l : Lane) (strong : Bool) :
    openFrame l strong s = s.setFr { s.fr with frame := some (openAssembly l strong) } := by
  unfold openFrame
  dsimp only
  rewrite [hm]
  rfl

theorem pulse_late {x : Assembly} (hx : x.sampling = false) : x.pulse l strong = { x with skew := x.skew || strong } := by
  cases x
  cases strong <;> simp_all [Assembly.pulse]

end Pulses

/-- Settles O49: by the mode of the reader and the frame that is open. -/
theorem lanePulsesAssembleAFrame : Obligations.LanePulsesAssembleAFrame := by
  intro u l strong s hund hsel
  have row {t : State} (h : takeLanePulse l strong s = t) : exec (.readLanePulse u l strong) s = .next t :=
    congrArg Host.Outcome.next ((event_of_undisturbed s (ifSelected u (takeLanePulse l strong)) hund).trans
      ((ifSelected_of hsel).trans h))
  refine ⟨fun hm => row (by unfold takeLanePulse; rw [hm]), fun hm hf => ⟨fun h => ?readback, fun hst hweak => ?_⟩,
    fun rev hm hf => ⟨fun h => ⟨fun r hr => ?run, fun hr => ?starts⟩, fun hst hweak => ?_⟩,
    fun x hm hf => ⟨fun hx => ?_, fun hx => ?_, ?_⟩⟩
  case readback =>
    exact row ((takeLanePulse_opens (by simp [hm]) hf h).trans (openFrame_readback hm l strong))
  case run =>
    have hopen := (takeLanePulse_opens (l := l) (by simp [hm]) hf h).trans (openFrame_parse hm l strong)
    rewrite [hr] at hopen
    exact row hopen
  case starts =>
    have hopen := (takeLanePulse_opens (l := l) (by simp [hm]) hf h).trans (openFrame_parse hm l strong)
    rewrite [hr] at hopen
    refine ⟨fun he => ?_, fun he => ?_⟩
    · rewrite [(eligibleNow_iff hm).mpr he] at hopen
      exact row hopen
    · rewrite [Bool.eq_false_iff.mpr fun h => he ((eligibleNow_iff hm).mp h)] at hopen
      exact row hopen
  · exact row (takeLanePulse_disregarded hf hst hweak)
  · exact row (takeLanePulse_disregarded hf hst hweak)
  · refine row ((takeLanePulse_joins hm hf).trans ?_)
    rewrite [Assembly.pulse, if_pos hx]
    rfl
  · refine row ((takeLanePulse_joins hm hf).trans ?_)
    rewrite [pulse_late hx]
    rfl
  · rewrite [exec_of_event (g := takeHalfPeriod) hund rfl, takeHalfPeriod, hf]
    rfl

end Sys2Proof.Machine
end

section
/-! PROOF. The distance tick: its counts, and the frame that is due at it (R9, R14, R45, R49 to R52, R66 to R71, R75, R78, R81, R196,
R199). -/

namespace Sys2Proof.Machine

/-! ### A tick with nothing overdue -/

section Settled
variable {s : State} {a : Active}

/-- The phases that end at a target of the phase count. -/
def timedPhases : List Phase := [.guard, .leader, .checkSpace, .rewriteGap, .erase]

/-- No target of the Phase Timer has been reached that is still to be acted on. -/
def State.placeAhead (s : State) : Prop :=
  s.timer.due = false ∨ s.oc = .stopping ∨
    ∃ a, s.oc = .active a ∧ a.phase ∉ timedPhases ∧
      ∀ k, a.phase = .trailer k → s.fw.account.map CopyAccount.trailer ≠ some .none

theorem atPhaseEnd_of_ahead {p : Phase} (hp : p ∈ timedPhases) (f : Active → State → State) (h : s.placeAhead) :
    atPhaseEnd p f s = s := by
  unfold atPhaseEnd
  rcases h with h | h | ⟨a, ha, hno, -⟩
  · cases s.oc <;> simp [h]
  · rw [h]
  · rw [ha]
    exact if_neg fun ⟨hph, _⟩ => hno (hph ▸ hp)

theorem takeTrailerPlacement_of_ahead (h : s.placeAhead) : takeTrailerPlacement s = s := by
  unfold takeTrailerPlacement
  rcases h with h | h | ⟨a, ha, -, hk⟩
  · cases s.oc with
    | active a => cases hp : a.phase <;> simp [h, hp]
    | _ => rfl
  · rw [h]
  · rw [ha]
    cases hp : a.phase <;> simp [hk, hp]

theorem takeEndOfFinish_of_ahead (h : s.placeAhead) : takeEndOfFinish s = s := by
  unfold takeEndOfFinish
  rcases h with h | h | ⟨a, ha, -⟩
  · cases s.oc <;> simp [h]
  · rw [h]
  · rw [ha]

/-- No event of the reader's counts is overdue. -/
def State.readerAhead (s : State) : Prop :=
  (∀ x, s.fr.frame = some x → x.age = 0) ∧ (s.fr.run.isSome = true → s.fr.runCount < 2) ∧
    (s.fr.record.isSome = true → s.fr.closeCount < 96) ∧ ∀ n, s.fr.search = some n → n < 4000

theorem closeOverdueFrame_of_ahead (h : s.readerAhead) : closeOverdueFrame s = s := by
  unfold closeOverdueFrame
  cases hf : s.fr.frame with
  | none => rfl
  | some x => exact if_neg (by rw [h.1 x hf]; decide)

theorem takeRunBreak_of_ahead (h : s.readerAhead) : takeRunBreak s = s := by
  refine if_neg fun hdue => ?_
  simp only [State.runBreakDue, Bool.and_eq_true, decide_eq_true_eq] at hdue
  exact absurd hdue.1.2 (Nat.not_le.mpr (h.2.1 hdue.1.1))

theorem takeCloseLimit_of_ahead (h : s.readerAhead) : takeCloseLimit s = s := by
  unfold takeCloseLimit
  cases hr : s.fr.record with
  | none => rfl
  | some o =>
    have hacts : s.closeLimitActs = false := by
      have hlt : s.fr.closeCount < Config.closeLimit := h.2.2.1 (by rw [hr]; rfl)
      simp [State.closeLimitActs, hlt]
    cases s.fr.mode with
    | parse rev => exact if_neg (by simp [hacts])
    | _ => rfl

theorem takeSearchLimit_of_ahead (h : s.readerAhead) : takeSearchLimit s = s := by
  unfold takeSearchLimit
  cases hn : s.fr.search with
  | none => rfl
  | some n =>
    have hlt : n < Config.searchLimit := h.2.2.2 n hn
    exact if_neg (by simp [hlt])

theorem takeDeadline_of_not_due (h : s.deadlineDue = false) (st : VerifyState) : takeDeadline st s = s := by
  simp [takeDeadline, h]

/-- With nothing overdue a tick finds everything settled (R45, log 9). -/
theorem settle_of_ahead (hr : s.readerAhead) (hd : s.deadlineDue = false) (hp : s.placeAhead) : settle s = s := by
  have h1 (p : Phase) (h : p ∈ timedPhases) (f : Active → State → State) := atPhaseEnd_of_ahead h f hp
  simp only [settle, closeOverdueFrame_of_ahead hr, takeRunBreak_of_ahead hr, takeCloseLimit_of_ahead hr, takeSearchLimit_of_ahead hr,
    takeDeadline_of_not_due hd, takeGuardEnd, takeLeaderEnd, takeCheckSpaceEnd, takeRewriteGapEnd, takeEraseEnd,
    h1 .guard (by decide), h1 .leader (by decide), h1 .checkSpace (by decide), h1 .rewriteGap (by decide), h1 .erase (by decide),
    takeTrailerPlacement_of_ahead hp, takeEndOfFinish_of_ahead hp]

/-- Nothing is overdue and no echo is awaited: the tick counts and writes the frame that is due. -/
theorem takeTick_of_ahead {u : UnitId} (hsel : s.tlc.selected = some u) (hr : s.readerAhead) (hd : s.deadlineDue = false)
    (hp : s.placeAhead) (hw : s.fw.watch = none) : takeTick u s = writeDue (countTick (enterParse s)) := by
  have hlost : requestLostByte s = s := if_neg (by simp [hw])
  have hecho : takeEchoDeadline s = s := if_neg (by simp [hw])
  simp only [takeTick, ifSelected_of hsel, settle_of_ahead hr hd hp, hlost, hecho]

theorem deadlineDue_of_none (h : s.timer.deadline = none) : s.deadlineDue = false := by simp [State.deadlineDue, h]

theorem deadlineDue_of_ahead {d : Deadline} (h : s.timer.deadline = some d) (hlt : d.count < d.target) : s.deadlineDue = false := by
  simp only [State.deadlineDue, h, decide_eq_false_iff_not]
  omega

theorem PhaseTimer.not_due_of {t : PhaseTimer} {n k : Nat} (ht : t.target = some n) (hk : t.phase = some k) (h : k < n) :
    t.due = false := by
  simp [PhaseTimer.due, ht, hk, h]

theorem readerAhead_of_quiet (h : s.quietReader) : s.readerAhead := by
  obtain ⟨h1, h2, h3, h4⟩ := h
  refine ⟨?_, ?_, ?_, ?_⟩ <;> simp [h1, h2, h3, h4]

end Settled

/-! ### The counts (R14, R16, R17, R45) -/

section Counts
variable {s : State} {a : Active}

/-- A tick with no deadline running. -/
def PhaseTimer.counted (t : PhaseTimer) : PhaseTimer := { t with phase := t.phase.map (· + 1) }

theorem PhaseTimer.tick_of_none {t : PhaseTimer} (h : t.deadline = none) : t.tick = t.counted := by
  rw [PhaseTimer.tick, h, PhaseTimer.counted, h]
  rfl

theorem PhaseTimer.tick_of_some {t : PhaseTimer} {d : Deadline} (h : t.deadline = some d) :
    t.tick = { t.counted with deadline := some { d with count := d.count + 1 } } := by
  rw [PhaseTimer.tick, h]
  rfl

/-- The writer with its strobe line low. -/
def FrameWriter.still (f : FrameWriter) : FrameWriter := { f with strobe := false }

/-- The reader's counts, each in progress one higher (R14, R16, R17). -/
def FrameReader.counted (fr : FrameReader) : FrameReader :=
  { fr with
    frame := fr.frame.map fun x => { x with age := x.age + 1 }
    runCount := if fr.run.isSome then fr.runCount + 1 else fr.runCount
    closeCount := if fr.record.isSome then fr.closeCount + 1 else fr.closeCount
    search := fr.search.map (· + 1) }

theorem countTick_eq (s : State) : countTick s = ((s.setTimer s.timer.tick).setFr s.fr.counted).setFw s.fw.still := rfl

theorem FrameReader.counted_of_quiet {fr : FrameReader} (h1 : fr.frame = none) (h2 : fr.run = none) (h3 : fr.record = none)
    (h4 : fr.search = none) : fr.counted = fr := by
  cases fr
  simp_all [FrameReader.counted]

theorem countTick_of_quiet (h : s.quietReader) : countTick s = (s.setTimer s.timer.tick).setFw s.fw.still := by
  obtain ⟨h1, h2, h3, h4⟩ := h
  rw [countTick_eq, FrameReader.counted_of_quiet h1 h2 h3 h4]
  rfl

/-- The state a tick counted in quiet: the Phase Timer one on, the strobe low. -/
def State.ticked (s : State) : State := (s.setTimer s.timer.counted).setFw s.fw.still

theorem countTick_of_quietMedium (h : s.quietMedium) : countTick s = s.ticked := by
  rw [countTick_of_quiet h.1, PhaseTimer.tick_of_none h.2.2, State.ticked]

theorem enterParse_of_no_ramp (h : ∀ a, s.oc = .active a → a.phase ≠ .ramp) : enterParse s = s := by
  unfold enterParse
  cases hoc : s.oc with
  | active a => exact if_neg fun hc => h a hoc hc.1
  | _ => rfl

/-- In quiet the tick is the count and the frame that is due. -/
theorem exec_tick_quiet {u : UnitId} (hund : s.undisturbed = true) (hsel : s.tlc.selected = some u) (hoc : s.oc = .active a)
    (hq : s.quietMedium) (hp : s.placeAhead) (hramp : a.phase ≠ .ramp) :
    exec (.distanceTick u) s = .next (writeDue s.ticked) := by
  have h := exec_of_event (i := .distanceTick u) (g := takeTick u) hund rfl
  rw [takeTick_of_ahead hsel (readerAhead_of_quiet hq.1) (deadlineDue_of_none hq.2.2) hp hq.2.1,
    enterParse_of_no_ramp (fun b hb => by cases hoc.symm.trans hb; exact hramp), countTick_of_quietMedium hq] at h
  exact h

end Counts

/-! ### The frame that is due -/

section Due
variable {s : State} {a : Active} {x : CopyAccount}

theorem writeDue_headerData (hoc : s.oc = .active a) (hp : a.phase = .headerData) : writeDue s = writeRunFrame a s := by
  unfold writeDue
  rw [hoc]
  dsimp only
  rw [hp]

theorem writeDue_chained (hoc : s.oc = .active a) (hp : a.phase = .chained) :
    writeDue s =
      if a.cmd.code = .eraseGap then enterPhase a .erase (some (a.cmd.count * Config.eraseUnit)) s else beginCopy a s := by
  unfold writeDue
  rw [hoc]
  dsimp only
  rw [hp]

theorem writeDue_trailer {k : TrailerKind} (hoc : s.oc = .active a) (hp : a.phase = .trailer k)
    (hx : s.fw.account = some x) (hk : x.trailer = .first k) : writeDue s = writeTrailerSecond a k s := by
  unfold writeDue
  rw [hoc]
  dsimp only
  rw [hp]
  exact if_pos (by rw [hx, ← hk]; rfl)

/-- The phases in which a tick writes nothing. -/
theorem writeDue_of_other
    (h : ∀ a, s.oc = .active a → a.phase ≠ .headerData ∧ a.phase ≠ .chained ∧ ∀ k, a.phase ≠ .trailer k) :
    writeDue s = s := by
  unfold writeDue
  cases hoc : s.oc with
  | active a =>
    obtain ⟨h1, h2, h3⟩ := h a hoc
    cases hp : a.phase <;> first | rfl | simp_all
  | _ => rfl

/-- A frame of the header run and, after the last planned one, the end of the run (R67, R70). -/
theorem writeRunFrame_of_header (hx : s.fw.account = some x) (hn : x.headerRun < 3) :
    writeRunFrame a s =
      (let t := writeFrame (frameOf (headerByte x.kind x.copy x.ordinal x.headerRun)) .header x.headerRun true s
       if x.headerRun + 1 = 3 + x.planned then endHeaderRun a 0 t else t) := by
  unfold writeRunFrame
  simp only [hx, hn, if_true, decide_eq_true_eq]

theorem writeRunFrame_of_data {v : Byte} {bu : BufferUnit} (hx : s.fw.account = some x) (hn : 3 ≤ x.headerRun)
    (hd : dataByte x.source (x.headerRun - 3) s = some (v, bu)) :
    writeRunFrame a s =
      (let t := writeFrame (frameOf v) .data x.headerRun true (s.setBu bu)
       if x.headerRun + 1 = 3 + x.planned then endHeaderRun a 0 t else t) := by
  unfold writeRunFrame
  simp only [hx, if_neg (Nat.not_lt.mpr hn), hd, decide_eq_true_eq]

theorem writeRunFrame_of_empty (hx : s.fw.account = some x) (hn : 3 ≤ x.headerRun) (hd : dataByte x.source (x.headerRun - 3) s = none) :
    writeRunFrame a s = cutRun a .underrun 1 s := by
  unfold writeRunFrame
  simp only [hx, if_neg (Nat.not_lt.mpr hn), hd]

end Due

/-! ### The frames of a copy as they are written -/

section Frames
variable {s : State} {a : Active} {x : CopyAccount}

/-- A copy begins with H0 alone in the accumulator (R49, R67). -/
theorem beginCopy_eq (a : Active) (s : State) :
    beginCopy a s =
      (let ordinal := a.ordinal.getD (s.nextOrdinal a.cmd.unit)
       let kind : Kind := if a.cmd.code = .writeMark then .mark else .data
       let h0 := frameOf (headerZero kind a.copyCounter)
       { s with
         oc := .active { a with phase := .headerData, ordinal := some ordinal, verdict := none, skipped := false }
         timer := { s.timer with phase := some 0, target := none }
         fw :=
           { s.fw with
             acc := h0, watch := some .header, lanes := h0, strobe := true
             account :=
               some
                 { kind := kind, ordinal := ordinal, copy := a.copyCounter, source := sourceOf a.cmd,
                   planned := a.cmd.count, headerRun := 1, dataFrames := 0, cut := none, lcf := .pending,
                   trailer := .none, passed := false, ended := .inProgress } }
         vu := s.vu.push { value := h0, role := .header, index := 0 } }) := by
  dsimp only
  rewrite [← kindOf_eq]
  have hacc : accumulate 0 (frameOf (headerZero (kindOf a.cmd) a.copyCounter)) .header =
      frameOf (headerZero (kindOf a.cmd) a.copyCounter) := BitVec.zero_xor
  exact congrArg (fun acc => { beginCopy a s with fw := { (beginCopy a s).fw with acc := acc } }) hacc

/-- A frame of the header run as it is written: the account's counts, and the role its place gives it (R66, R67). -/
def runFrame (x : CopyAccount) (byte : Byte) (s : State) : State :=
  writeFrame (frameOf byte) (if x.headerRun < 3 then .header else .data) x.headerRun true s

theorem runFrame_eq (hx : s.fw.account = some x) (byte : Byte) :
    runFrame x byte s =
      { s with
        fw :=
          { s.fw with
            acc := s.fw.acc ^^^ frameOf byte, watch := some (if x.headerRun < 3 then .header else .data)
            lanes := frameOf byte, strobe := true
            account :=
              some
                { x with
                  headerRun := x.headerRun + 1, dataFrames := x.dataFrames + (if x.headerRun < 3 then 0 else 1) } }
        vu :=
          s.vu.push
            { value := frameOf byte, role := if x.headerRun < 3 then .header else .data, index := x.headerRun } } := by
  rewrite [runFrame, writeFrame_eq, hx]
  by_cases hn : x.headerRun < 3
  · simp only [hn, if_true]
    rfl
  · simp only [hn, if_false]
    rfl

/-- The second trailer frame written (R75, R78). -/
def secondWritten (k : TrailerKind) (x : CopyAccount) (s : State) : State :=
  (s.setFw
      { s.fw with
        watch := some .trailer, lanes := frameOf (trailerSecond k), strobe := true
        account := some { x with trailer := .complete k, passed := x.passed || decide (k = .commit) } }).setVu
    (if decide (k = .commit) then s.vu.push { value := frameOf (trailerSecond k), role := .trailer, index := 1 } else s.vu)

/-- The copy's OC in TRAILER CHECK, its deadline running (R50). -/
def inTrailerCheck (a : Active) (z : State) : State :=
  (enterPhase a .trailerCheck none z).setTimer
    { phase := some 0, target := none, deadline := some { count := 0, target := a.profile.headDistance + 4 } }

theorem writeTrailerSecond_commit (hx : s.fw.account = some x) :
    writeTrailerSecond a .commit s =
      (let t := inTrailerCheck a (secondWritten .commit x s)
       if s.hw.resetPending then controlResetEffect t else t) := by
  unfold writeTrailerSecond
  simp only [writeFrame_eq, hx]
  rfl

theorem writeTrailerSecond_void (hx : s.fw.account = some x) :
    writeTrailerSecond a .void s =
      (let t := endCopy a .void (secondWritten .void x s)
       let gap := a.profile.headDistance + 16
       if t.hw.resetPending then controlResetEffect t
       else if a.mayRewrite then
         if a.abortMark then conclude a .aborted (.finish gap) t
         else (enterPhase a .rewriteGap (some gap) t).setTimer { phase := some 0, target := some gap, deadline := none }
       else conclude a a.voidOutcome (.finish gap) t) := by
  unfold writeTrailerSecond
  simp only [writeFrame_eq, hx]
  rfl

theorem mayRewrite_iff (a : Active) :
    a.mayRewrite = true ↔
      (a.cmd.code = .write ∨ a.cmd.code = .writeMark) ∧ a.copyCounter < a.cmd.retry ∧ a.skipped = false ∧
        a.voidOutcome = .verifyFailed := by
  have hretry : a.cmd.code.usesRetry = true ↔ a.cmd.code = .write ∨ a.cmd.code = .writeMark := by
    cases a.cmd.code <;> simp [CommandCode.usesRetry]
  simp [Active.mayRewrite, hretry, and_assoc]

/-- The reset leaves the writer's lanes, and its gate while the medium stops. -/
theorem controlResetEffect_lanes (s : State) :
    (controlResetEffect s).fw.lanes = (describeCommitted s).fw.lanes ∧
      (controlResetEffect s).fw.strobe = (describeCommitted s).fw.strobe ∧
      ((controlResetEffect s).oc = .stopping → (controlResetEffect s).fw.gate = (describeCommitted s).fw.gate) := by
  have hfw : (clearedForReset s).fw = { (describeCommitted s).fw with watch := none, acc := 0, account := none } := sendStop_fw _
  rw [controlResetEffect_eq]
  rcases enterStopping_cases (clearedForReset s) with ⟨-, e⟩ | ⟨-, e⟩
  · rw [e]
    exact ⟨(congrArg FrameWriter.lanes hfw :), (congrArg FrameWriter.strobe hfw :), fun _ => (congrArg FrameWriter.gate hfw :)⟩
  · obtain ⟨-, -, -, -, -, k, -⟩ :=
      stopDone_blocks (s := ((clearedForReset s).setOc .stopping).setTimer (clearedForReset s).timer.atStop) rfl
    rw [e, k]
    exact ⟨(congrArg FrameWriter.lanes hfw :), (congrArg FrameWriter.strobe hfw :), nofun⟩

end Frames

section Ends
variable {s : State} {a : Active} {x : CopyAccount}

/-- The reset at the second trailer frame takes what a reset takes (R199). -/
theorem reset_at_trailer {z : State} (hhw : z.hw = s.hw) (hcu : z.cu = s.cu) (hbu : z.bu = s.bu) (htlc : z.tlc = s.tlc)
    (hfr : z.fr = s.fr) (hrun : s.fr.run = none) {rc : RecordCatalogue} {lanes : Lanes} (hrc : (describeCommitted z).rc = rc)
    (hlanes : (describeCommitted z).fw.lanes = lanes) (hstrobe : (describeCommitted z).fw.strobe = true)
    (hgate : z.fw.gate = s.fw.gate) :
    resetTaken s (controlResetEffect z) ∧ (controlResetEffect z).fw.lanes = lanes ∧ (controlResetEffect z).fw.strobe = true ∧
      ((controlResetEffect z).oc = .stopping → (controlResetEffect z).fw.gate = s.fw.gate) ∧ (controlResetEffect z).rc = rc := by
  obtain ⟨h1, h2, h3⟩ := controlResetEffect_lanes z
  refine ⟨controlResetEffect_taken hhw hcu hbu (.inl htlc), h1.trans hlanes, h2.trans hstrobe, fun hst => ?_, ?_⟩
  · exact (h3 hst).trans ((describeCommitted_blocks z).2.2.2.2.2.2.2.trans hgate)
  · exact (controlResetEffect_rc (.inr (by rw [hfr]; exact hrun))).trans hrc

theorem endCopy_rc_of {z : State} (hx : z.fw.account = some x) (hrc : z.rc = s.rc) (hsel : z.tlc.selected = s.tlc.selected)
    (e : CopyEnding) :
    (endCopy a e z).rc = (placeForward a.cmd.unit (writtenRecord a x (reportedTrailer e)) x.passed s).rc :=
  (endCopy_of_account hx e).1.trans (placeForward_rc_congr hrc hsel _ _ _)

theorem describeCommitted_of_check {z : State} (hoc : z.oc = .active a) (hp : a.phase = .trailerCheck)
    (hx : z.fw.account = some x) (hend : x.ended = .inProgress) : describeCommitted z = endCopy a .unsealed z := by
  unfold describeCommitted
  rw [hoc]
  exact if_pos ⟨hp, by simp [State.copyInProgress, hx, hend]⟩

/-- The account once the second frame of a trailer is written. -/
def CopyAccount.sealedBy (x : CopyAccount) (k : TrailerKind) : CopyAccount :=
  { x with trailer := .complete k, passed := x.passed || decide (k = .commit) }

/-- The copy whose commit trailer is written is described with trailer none (R80, R199). -/
theorem describeCommitted_inTrailerCheck (hend : x.ended = .inProgress) :
    (describeCommitted (inTrailerCheck a (secondWritten .commit x s.ticked))).rc =
        (placeForward a.cmd.unit (writtenRecord a x .none) true s).rc ∧
      (describeCommitted (inTrailerCheck a (secondWritten .commit x s.ticked))).fw.lanes = frameOf 0xC3 ∧
      (describeCommitted (inTrailerCheck a (secondWritten .commit x s.ticked))).fw.strobe = true := by
  have hx : (inTrailerCheck a (secondWritten .commit x s.ticked)).fw.account = some (x.sealedBy .commit) := rfl
  have hpassed : (x.sealedBy .commit).passed = true := Bool.or_true _
  rw [describeCommitted_of_check (a := { a with phase := .trailerCheck }) rfl rfl hx hend, (endCopy_of_account hx .unsealed).2,
    endCopy_rc_of (s := s) hx rfl rfl, hpassed]
  exact ⟨rfl, rfl, rfl⟩

/-- The void copy is described, and the writer keeps its lanes (R78). -/
theorem endCopy_void (a : Active) (x : CopyAccount) (s : State) :
    (endCopy a .void (secondWritten .void x s.ticked)).rc = (placeForward a.cmd.unit (writtenRecord a x .void) x.passed s).rc ∧
      (endCopy a .void (secondWritten .void x s.ticked)).fw =
        { s.fw with
          watch := some .trailer, lanes := frameOf 0x99, strobe := true
          account := some { x with trailer := .complete .void, ended := .void } } := by
  have hx : (secondWritten .void x s.ticked).fw.account = some (x.sealedBy .void) := rfl
  have hsealed : x.sealedBy .void = { x with trailer := .complete .void } :=
    congrArg (fun p => { x with trailer := .complete .void, passed := p }) (Bool.or_false _)
  rw [(endCopy_of_account hx .void).2, endCopy_rc_of (s := s) hx rfl rfl, hsealed]
  exact ⟨rfl, rfl⟩

theorem describeCommitted_of_ended (hx : s.fw.account = some x) (h : x.ended ≠ .inProgress) : describeCommitted s = s := by
  unfold describeCommitted
  cases s.oc with
  | active b => exact if_neg fun hc => by simp [State.copyInProgress, hx, h] at hc
  | _ => rfl

end Ends

/-- Settles O46: the counts, the frames of the header run, and the second frame of a trailer. -/
theorem ticksCountAndWriteTheHeaderRun : Obligations.TicksCountAndWriteTheHeaderRun := by
  intro u s hund hsel counted still
  have row {t : State} (h : takeTick u s = t) : exec (.distanceTick u) s = .next t :=
    (exec_of_event hund rfl).trans (congrArg Host.Outcome.next h)
  refine ⟨fun hw hd hfr hrun hclose hsearch hph => ?counts, fun a d hoc hp hq hw hd hlt => ?deadline,
    fun a hoc hp hq => ⟨fun hc hm => ?parse, fun hno => ?ramp⟩, fun a hoc hp hq => ⟨fun hc => ?erase, fun hc => ?chained⟩,
    fun a x hoc hp hx hq => ?run, fun a x hoc hx hq hp hend => ⟨fun hph htr => ?commitReset, fun hph htr => ?voidReset⟩,
    fun a x hoc hx hq hp => ⟨fun hph htr => ?commit, fun hph htr => ?void⟩⟩
  case counts =>
    have hahead : s.placeAhead := by
      rcases hph with h | ⟨a, ha, h⟩ | ⟨-, n, k, ht, hk, hlt⟩
      · exact .inr (.inl h)
      · exact .inr (.inr ⟨a, ha, by rcases h with h | h | h | h | h <;> rw [h] <;> decide,
          fun k hk => by rcases h with h | h | h | h | h <;> simp [h] at hk⟩)
      · exact .inl (PhaseTimer.not_due_of ht hk hlt)
    have hphases : ∀ a, s.oc = .active a →
        a.phase ≠ .ramp ∧ a.phase ≠ .headerData ∧ a.phase ≠ .chained ∧ ∀ k, a.phase ≠ .trailer k := fun a ha => by
      rcases hph with h | ⟨b, hb, h⟩ | ⟨⟨f, h⟩ | ⟨b, hb, h⟩, -⟩
      · simp [ha] at h
      · cases ha.symm.trans hb
        rcases h with h | h | h | h | h <;> simp [h]
      · simp [ha] at h
      · cases ha.symm.trans hb
        rcases h with h | h | h | h | h <;> simp [h]
    refine row ((takeTick_of_ahead hsel ⟨hfr, hrun, hclose, hsearch⟩ (deadlineDue_of_none hd) hahead hw).trans ?_)
    rw [enterParse_of_no_ramp fun a ha => (hphases a ha).1, countTick_eq, PhaseTimer.tick_of_none hd]
    exact writeDue_of_other fun a ha => (hphases a ha).2
  case deadline =>
    have hahead : s.placeAhead := .inr (.inr ⟨a, hoc, by rcases hp with h | h <;> rw [h] <;> decide,
      fun k hk => by rcases hp with h | h <;> simp [h] at hk⟩)
    refine row ((takeTick_of_ahead hsel (readerAhead_of_quiet hq) (deadlineDue_of_ahead hd hlt) hahead hw).trans ?_)
    rw [enterParse_of_no_ramp fun b hb => by cases hoc.symm.trans hb; rcases hp with h | h <;> simp [h], countTick_of_quiet hq,
      PhaseTimer.tick_of_some hd]
    refine writeDue_of_other fun b hb => ?_
    cases hoc.symm.trans hb
    rcases hp with h | h <;> simp [h]
  case parse =>
    have hahead : s.placeAhead := .inr (.inr ⟨a, hoc, by rw [hp]; decide, fun k hk => by simp [hp] at hk⟩)
    refine row ((takeTick_of_ahead hsel (readerAhead_of_quiet hq.1) (deadlineDue_of_none hq.2.2) hahead hq.2.1).trans ?_)
    have hparse : enterParse s = s.setFr { s.fr with mode := .parse a.reverse } := by
      unfold enterParse
      rw [hoc]
      exact if_pos ⟨hp, hc, hm⟩
    rw [hparse, countTick_of_quietMedium (s := s.setFr { s.fr with mode := .parse a.reverse }) hq]
    refine writeDue_of_other fun b hb => ?_
    cases hoc.symm.trans hb
    simp [hp]
  case ramp =>
    have hahead : s.placeAhead := .inr (.inr ⟨a, hoc, by rw [hp]; decide, fun k hk => by simp [hp] at hk⟩)
    refine row ((takeTick_of_ahead hsel (readerAhead_of_quiet hq.1) (deadlineDue_of_none hq.2.2) hahead hq.2.1).trans ?_)
    have hparse : enterParse s = s := by
      unfold enterParse
      rw [hoc]
      exact if_neg fun ⟨_, hc, hm⟩ => by rcases hno with h | h <;> simp_all
    rw [hparse, countTick_of_quietMedium hq]
    refine writeDue_of_other fun b hb => ?_
    cases hoc.symm.trans hb
    simp [hp]
  case erase | chained =>
    have hahead : s.placeAhead := .inr (.inr ⟨a, hoc, by rw [hp]; decide, fun k hk => by simp [hp] at hk⟩)
    have h := exec_tick_quiet hund hsel hoc hq hahead (by simp [hp])
    rewrite [writeDue_chained (s := s.ticked) hoc hp] at h
    first
      | exact h.trans (congrArg Host.Outcome.next (if_pos hc))
      | exact h.trans (congrArg Host.Outcome.next ((if_neg hc).trans (beginCopy_eq a _)))
  case run =>
    intro n writes
    have hahead : s.placeAhead := .inr (.inr ⟨a, hoc, by rw [hp]; decide, fun k hk => by simp [hp] at hk⟩)
    have h := exec_tick_quiet hund hsel hoc hq hahead (by simp [hp])
    rewrite [writeDue_headerData (s := s.ticked) hoc hp] at h
    have written (byte : Byte) (bu : BufferUnit)
        (hrow : writeRunFrame a s.ticked =
          (let t := runFrame x byte (s.ticked.setBu bu)
           if x.headerRun + 1 = 3 + x.planned then endHeaderRun a 0 t else t)) : writes byte bu := by
      refine h.trans (congrArg Host.Outcome.next (hrow.trans ?_))
      dsimp only
      rewrite [runFrame_eq (s := s.ticked.setBu bu) hx]
      by_cases hlast : x.headerRun + 1 = 3 + x.planned
      · simp only [n, hlast, if_true]
        rfl
      · simp only [n, hlast, if_false]
        rfl
    refine ⟨fun hn => written _ s.bu ?_, fun b hn hsrc => written _ s.bu ?_, fun v rest hn hsrc hst => written _ _ ?_,
      fun hn hsrc hst => ?_⟩
    · refine (writeRunFrame_of_header (s := s.ticked) hx hn).trans ?_
      dsimp only [runFrame]
      rewrite [if_pos hn]
      rfl
    · refine (writeRunFrame_of_data (s := s.ticked) hx hn (by rw [hsrc]; rfl)).trans ?_
      dsimp only [runFrame]
      rewrite [if_neg (Nat.not_lt.mpr hn)]
      rfl
    · refine (writeRunFrame_of_data (s := s.ticked) (v := v) (bu := { s.bu with stream := rest }) hx hn ?_).trans ?_
      · rw [hsrc]
        exact congrArg (fun l : List Byte => match l with
          | [] => none
          | v :: rest => some (v, { s.bu with stream := rest })) hst
      · dsimp only [runFrame]
        rewrite [if_neg (Nat.not_lt.mpr hn)]
        rfl
    · refine h.trans (congrArg Host.Outcome.next ((writeRunFrame_of_empty (s := s.ticked) hx hn ?_).trans ?_))
      · rw [hsrc]
        exact congrArg (fun l : List Byte => match l with
          | [] => none
          | v :: rest => some (v, { s.bu with stream := rest })) hst
      · simp only [cutRun, State.ticked, FrameWriter.still, State.setFw_fw, hx]
        rfl
  case commitReset =>
    have hahead : s.placeAhead := .inr (.inr ⟨a, hoc, by rw [hph]; decide, fun k _ => by simp [hx, htr]⟩)
    have h := exec_tick_quiet hund hsel hoc hq hahead (by simp [hph])
    rewrite [writeDue_trailer (s := s.ticked) hoc hph hx htr, writeTrailerSecond_commit (s := s.ticked) hx] at h
    obtain ⟨hrc, hlanes, hstrobe⟩ := describeCommitted_inTrailerCheck (s := s) (a := a) (x := x) hend
    obtain ⟨k1, k2, k3, k4, k5⟩ := reset_at_trailer (s := s) (z := inTrailerCheck a (secondWritten .commit x s.ticked)) rfl rfl rfl rfl
      rfl hq.1.2.1 hrc hlanes hstrobe rfl
    exact ⟨_, h.trans (congrArg Host.Outcome.next (if_pos hp)), k1, k2, k3, k4, k5⟩
  case voidReset =>
    have hahead : s.placeAhead := .inr (.inr ⟨a, hoc, by rw [hph]; decide, fun k _ => by simp [hx, htr]⟩)
    have h := exec_tick_quiet hund hsel hoc hq hahead (by simp [hph])
    rewrite [writeDue_trailer (s := s.ticked) hoc hph hx htr, writeTrailerSecond_void (s := s.ticked) hx] at h
    obtain ⟨hrc, hfw⟩ := endCopy_void a x s
    obtain ⟨e1, e2, -, -, e5, e6, -, e8, -, e10⟩ := endCopy_blocks (s := secondWritten .void x s.ticked) a .void
    have hdesc : describeCommitted (endCopy a .void (secondWritten .void x s.ticked)) =
        endCopy a .void (secondWritten .void x s.ticked) :=
      describeCommitted_of_ended (congrArg FrameWriter.account hfw) (by simp)
    obtain ⟨k1, k2, k3, k4, k5⟩ := reset_at_trailer (s := s) (z := endCopy a .void (secondWritten .void x s.ticked)) e1 e2 e8 e5 e6
      hq.1.2.1 ((congrArg State.rc hdesc).trans hrc) ((congrArg (fun t => t.fw.lanes) hdesc).trans (congrArg FrameWriter.lanes hfw))
      ((congrArg (fun t => t.fw.strobe) hdesc).trans (congrArg FrameWriter.strobe hfw)) e10
    exact ⟨_, h.trans (congrArg Host.Outcome.next (if_pos (by rw [e1]; exact hp))), k1, k2, k3, k4, k5⟩
  case commit =>
    have hahead : s.placeAhead := .inr (.inr ⟨a, hoc, by rw [hph]; decide, fun k _ => by simp [hx, htr]⟩)
    have h := exec_tick_quiet hund hsel hoc hq hahead (by simp [hph])
    rewrite [writeDue_trailer (s := s.ticked) hoc hph hx htr, writeTrailerSecond_commit (s := s.ticked) hx] at h
    refine h.trans (congrArg Host.Outcome.next ((if_neg (by rw [show s.ticked.hw.resetPending = false from hp]; simp)).trans ?_))
    simp only [secondWritten, decide_true, Bool.or_true]
    rfl
  case void =>
    have hahead : s.placeAhead := .inr (.inr ⟨a, hoc, by rw [hph]; decide, fun k _ => by simp [hx, htr]⟩)
    have h := exec_tick_quiet hund hsel hoc hq hahead (by simp [hph])
    rewrite [writeDue_trailer (s := s.ticked) hoc hph hx htr, writeTrailerSecond_void (s := s.ticked) hx] at h
    intro gap rewrites
    obtain ⟨hrc, hfw⟩ := endCopy_void a x s
    obtain ⟨e1, e2, -, -, e5, e6, -, e8, e9, e10⟩ := endCopy_blocks (s := secondWritten .void x s.ticked) a .void
    have hpend : (endCopy a .void (secondWritten .void x s.ticked)).hw.resetPending = false := by rw [e1]; exact hp
    dsimp only at h
    rewrite [if_neg (by rw [hpend]; simp)] at h
    have concludes (o : CmdOutcome) :
        (conclude a o (.finish gap) (endCopy a .void (secondWritten .void x s.ticked))).rc =
            (placeForward a.cmd.unit (writtenRecord a x .void) x.passed s).rc ∧
          (conclude a o (.finish gap) (endCopy a .void (secondWritten .void x s.ticked))).fw =
            { s.fw with
              watch := some .trailer, lanes := frameOf 0x99, strobe := true
              account := some { x with trailer := .complete .void, ended := .void } } ∧
          endsInFinish a o gap s (conclude a o (.finish gap) (endCopy a .void (secondWritten .void x s.ticked))) := by
      obtain ⟨-, k2, -, k4, -⟩ := conclude_finish_blocks a o gap _ hpend
      exact ⟨k4.trans hrc, k2.trans hfw, conclude_finish gap rfl rfl e9 e2 hpend⟩
    by_cases hr : rewrites
    · rewrite [if_pos ((mayRewrite_iff a).mpr hr)] at h
      by_cases hm : a.abortMark = true
      · rewrite [if_pos hm] at h
        obtain ⟨k1, k2, k3⟩ := concludes .aborted
        exact ⟨_, h, k1, k2, fun _ hf => absurd (hm.symm.trans hf) (by decide), fun _ _ => k3, fun hn => absurd hr hn⟩
      · rewrite [if_neg hm] at h
        exact ⟨_, h, hrc, hfw, fun _ _ => ⟨rfl, rfl, e9, e8⟩, fun _ ht => absurd ht hm, fun hn => absurd hr hn⟩
    · rewrite [if_neg fun hm => hr ((mayRewrite_iff a).mp hm)] at h
      obtain ⟨k1, k2, k3⟩ := concludes a.voidOutcome
      exact ⟨_, h, k1, k2, fun hn => absurd hn hr, fun hn => absurd hn hr, fun _ => k3⟩

end Sys2Proof.Machine
end

section
/-! PROOF. A closed frame: Table 6-2, the counts, the verdicts of the Verify Unit, and the run it joins with the byte it delivers
(R85 to R87, R103 to R114, R174, R179, R184). -/

namespace Sys2Proof.Machine

/-! ### Table 6-2 and the counts -/

section Judge
variable {strict : Bool} {f : ReadFrame} {e : WindowEntry}

/-- Table 6-2 for every entry but the LCF. -/
theorem judge_of_frame (h : e.role ≠ .lcf) :
    judge strict f e =
      if f.status = .unreadable then some .unreadable
      else if f.value ≠ e.value then some .value
      else if strict && decide (f.status = .marginal) then some .marginal
      else if strict && f.skew then some .skew
      else none := by
  unfold judge
  cases hr : e.role with
  | lcf => exact absurd hr h
  | _ => rfl

/-- Table 6-2 for the LCF, compared by its strong value (R104). -/
theorem judge_of_lcf (h : e.role = .lcf) :
    judge strict f e = if f.strong ≠ e.value then some .value else if strict && f.skew then some .skew else none := by
  unfold judge
  rw [h]

theorem judge_table (strict : Bool) (f : ReadFrame) (e : WindowEntry) :
    (e.role ≠ .lcf →
      (f.status = .unreadable → judge strict f e = some .unreadable) ∧
      (f.status ≠ .unreadable → f.value ≠ e.value → judge strict f e = some .value) ∧
      (f.status = .marginal → f.value = e.value → judge strict f e = if strict then some .marginal else none) ∧
      ((f.status = .clean ∨ f.status = .corrected) → f.value = e.value →
        judge strict f e = if strict = true ∧ f.skew = true then some .skew else none)) ∧
    (e.role = .lcf →
      (f.strong ≠ e.value → judge strict f e = some .value) ∧
      (f.strong = e.value → judge strict f e = if strict = true ∧ f.skew = true then some .skew else none)) := by
  refine ⟨fun h => ⟨fun hs => ?_, fun hs hv => ?_, fun hs hv => ?_, fun hs hv => ?_⟩, fun h => ⟨fun hv => ?_, fun hv => ?_⟩⟩
  · rw [judge_of_frame h, if_pos hs]
  · rw [judge_of_frame h, if_neg hs, if_pos hv]
  · rw [judge_of_frame h]
    cases strict <;> simp [hs, hv]
  · rw [judge_of_frame h]
    rcases hs with hs | hs <;> simp [hs, hv]
  · rw [judge_of_lcf h, if_pos hv]
  · rw [judge_of_lcf h]
    simp [hv]

theorem countUpTo_eq {limit n : Nat} (h : n ≤ limit) (b : Bool) : countUpTo limit n b = if b then min (n + 1) limit else n := by
  unfold countUpTo
  cases b <;> simp
  split <;> omega

theorem VerifyUnit.tally_eq (v : VerifyUnit) (f : ReadFrame) (e : WindowEntry) (h1 : v.corrected ≤ 255) (h2 : v.marginal ≤ 255)
    (h3 : v.skew ≤ 15) :
    v.tally f e =
      { v with
        corrected := if e.role ≠ .lcf ∧ f.status = .corrected then min (v.corrected + 1) 255 else v.corrected
        marginal := if e.role ≠ .lcf ∧ f.status = .marginal then min (v.marginal + 1) 255 else v.marginal
        skew := if f.skew then min (v.skew + 1) 15 else v.skew
        soft :=
          if v.state = .listening ∧ (e.role = .header ∨ e.role = .data) ∧
              (f.status = .corrected ∨ f.status = .marginal) then true
          else v.soft } := by
  unfold VerifyUnit.tally
  simp only [Config.frameCountLimit, Config.skewCountLimit, countUpTo_eq h1, countUpTo_eq h2, countUpTo_eq h3, Bool.and_eq_true,
    decide_eq_true_eq]
  congr 1
  split <;> simp_all

theorem Run.join_eq (r : Run) (f : ReadFrame) :
    r.join f =
      { r with
        length := r.length + 1, xor := r.xor ^^^ f.value, first := (r.first ++ [f]).take 3, last := (f :: r.last).take 3
        tallies :=
          { corrected := if f.status = .corrected then r.tallies.corrected + 1 else r.tallies.corrected
            marginal := if f.status = .marginal then r.tallies.marginal + 1 else r.tallies.marginal
            unreadable := if f.status = .unreadable then r.tallies.unreadable + 1 else r.tallies.unreadable
            skewed := if f.skew then r.tallies.skewed + 1 else r.tallies.skewed } } := by
  have hadd (c : Prop) [Decidable c] (n : Nat) : n + (if c then 1 else 0) = if c then n + 1 else n := by split <;> rfl
  simp only [Run.join, Tallies.add, hadd]

end Judge

/-! ### The Verify Unit at a read-back frame (R103 to R114) -/

section Verify
variable {v : VerifyUnit} {strict : Bool} {f : ReadFrame} {e : WindowEntry} {rest : List WindowEntry}

theorem VerifyUnit.frame_of_idle (h : v.state = .idle) : v.frame strict f = (v, none) := by
  unfold VerifyUnit.frame
  rw [h]

theorem VerifyUnit.frame_of_empty (h : v.state ≠ .idle) (hw : v.window = []) : v.frame strict f = (v.record (some .extra), none) := by
  unfold VerifyUnit.frame
  rw [hw]
  cases hs : v.state with
  | idle => exact absurd hs h
  | _ => rfl

theorem VerifyUnit.record_of_listening (h : v.state = .listening) (k : Option FailureKind) :
    v.record k = { v with copyFailure := firstFailure v.copyFailure k } := by
  cases v
  cases h
  rfl

theorem VerifyUnit.record_of_trailerCheck (h : v.state = .trailerCheck) (k : Option FailureKind) :
    v.record k = { v with trailerFailure := firstFailure v.trailerFailure k } := by
  cases v
  cases h
  rfl

/-- The oldest entry removed, the frame judged and counted against it (R104 to R107). -/
def VerifyUnit.judged (v : VerifyUnit) (strict : Bool) (f : ReadFrame) (e : WindowEntry) (rest : List WindowEntry) : VerifyUnit :=
  (({ v with window := rest }).record (judge strict f e)).tally f e

theorem VerifyUnit.frame_of_entry (h : v.state ≠ .idle) (hw : v.window = e :: rest) :
    v.frame strict f = (v.judged strict f e rest).afterRemoval e := by
  obtain ⟨st, window, copyFailure, trailerFailure, soft, blankNotice, reported, corrected, marginal, skew⟩ := v
  cases hw
  cases st with
  | idle => exact absurd rfl h
  | _ => rfl

theorem VerifyUnit.judged_of_listening (h : v.state = .listening) :
    v.judged strict f e rest =
      ({ v with window := rest, copyFailure := firstFailure v.copyFailure (judge strict f e) } : VerifyUnit).tally f e := by
  cases v
  cases h
  rfl

theorem VerifyUnit.judged_of_trailerCheck (h : v.state = .trailerCheck) :
    v.judged strict f e rest =
      ({ v with window := rest, trailerFailure := firstFailure v.trailerFailure (judge strict f e) } : VerifyUnit).tally f e := by
  cases v
  cases h
  rfl

theorem VerifyUnit.afterRemoval_of_entries (h : v.window ≠ []) : v.afterRemoval e = (v, none) := by
  unfold VerifyUnit.afterRemoval
  exact if_neg (by simpa using h)

theorem VerifyUnit.afterRemoval_of_listening (hs : v.state = .listening) (h : v.window = []) :
    v.afterRemoval e = if e.role = .lcf ∨ v.blankNotice = true then ((v.verdict).1, some (v.verdict).2) else (v, none) := by
  unfold VerifyUnit.afterRemoval
  rw [hs]
  exact if_pos (by rw [h]; rfl)

theorem VerifyUnit.afterRemoval_of_trailerCheck (hs : v.state = .trailerCheck) (h : v.window = []) :
    v.afterRemoval e = if e.role = .trailer ∧ e.index = 1 then ((v.trailerVerdict).1, some (v.trailerVerdict).2) else (v, none) := by
  unfold VerifyUnit.afterRemoval
  rw [hs]
  exact if_pos (by rw [h]; rfl)

end Verify

/-! ### The closed frame and its byte (R85 to R87) -/

section CloseFrame
variable {s : State} {x : Assembly} {a : Active} {r : Run}

theorem closeFrame_readback (hx : s.fr.frame = some x) (hm : s.fr.mode = .readback) :
    closeFrame s =
      takeVerdict (s.vu.frame s.strictVerify (selectFrame x)).2
        ((s.setFr { s.fr with frame := none }).setVu (s.vu.frame s.strictVerify (selectFrame x)).1) := by
  unfold closeFrame
  rw [hx]
  dsimp only
  rw [State.setFr_fr, hm]
  rfl

theorem closeFrame_parse {rev : Bool} (hx : s.fr.frame = some x) (hm : s.fr.mode = .parse rev) :
    closeFrame s =
      if x.handed then s.setFr { s.fr with frame := none } else joinRun (selectFrame x) (s.setFr { s.fr with frame := none }) := by
  unfold closeFrame
  rw [hx]
  dsimp only
  rw [State.setFr_fr, hm]

/-- A frame that joins its run gives its byte from the fourth frame of an eligible run on (R86, R87). -/
theorem joinRun_eq (f : ReadFrame) (hr : s.fr.run = some r) :
    joinRun f s =
      match s.oc with
      | .active a =>
        if r.eligible && decide (3 ≤ r.length) then
          deliverByte a (r.join f) (r.length - 3) (dataLanes f.value) (s.setFr { s.fr with run := some (r.join f) })
        else s.setFr { s.fr with run := some (r.join f) }
      | _ => s.setFr { s.fr with run := some (r.join f) } := by
  have hlength : ((r.join f).eligible && decide (4 ≤ (r.join f).length)) = (r.eligible && decide (3 ≤ r.length)) :=
    congrArg (r.eligible && ·) (by simp [Run.join])
  unfold joinRun
  dsimp only
  rw [hr]
  simp only [Option.getD_some, hlength]
  rfl

theorem joinRun_of_ineligible (f : ReadFrame) (hr : s.fr.run = some r)
    (h : r.eligible = false ∨ r.length < 3 ∨ s.active = none) : joinRun f s = s.setFr { s.fr with run := some (r.join f) } := by
  rw [joinRun_eq f hr]
  cases hoc : s.oc with
  | active a =>
    refine if_neg fun hc => ?_
    simp only [Bool.and_eq_true, decide_eq_true_eq] at hc
    rcases h with h | h | h
    · simp [h] at hc
    · omega
    · simp [State.active, hoc] at h
  | _ => rfl

theorem joinRun_of_eligible (f : ReadFrame) (hr : s.fr.run = some r) (hoc : s.oc = .active a) (he : r.eligible = true)
    (hl : 3 ≤ r.length) :
    joinRun f s =
      deliverByte a (r.join f) (r.length - 3) (dataLanes f.value) (s.setFr { s.fr with run := some (r.join f) }) := by
  rw [joinRun_eq f hr, hoc]
  exact if_pos (by simp [he, hl])

/-! ### The delivery of a byte (R87, R174, R179, R184) -/

theorem deliverByte_beyond {n : Nat} (v : Byte) (h : a.cmd.count ≤ n) :
    deliverByte a r n v s = s.setFr { s.fr with run := some { r with lengthExcess := true } } :=
  if_neg (Nat.not_lt.mpr h)

theorem deliverByte_stopped {n : Nat} (v : Byte) (h : n < a.cmd.count) (hs : s.fr.account.stopped = true) :
    deliverByte a r n v s = s := (if_pos h).trans (if_pos hs)

theorem deliverByte_read {n : Nat} (v : Byte) (h : n < a.cmd.count) (hs : s.fr.account.stopped = false) (hc : a.cmd.code = .read) :
    deliverByte a r n v s =
      (s.setBu (s.bu.setBuffer a.cmd.buffer ((s.bu.buffer a.cmd.buffer).storeRecordByte v))).setOc
        (.active { a with bytes := a.bytes + 1 }) := by
  unfold deliverByte
  rewrite [if_pos h, if_neg (by simp [hs]), hc]
  rfl

theorem deliverByte_stream {n : Nat} (v : Byte) (h : n < a.cmd.count) (hs : s.fr.account.stopped = false)
    (hc : a.cmd.code = .readStream) :
    deliverByte a r n v s =
      if s.bu.stream.length < 64 then
        (s.setBu { s.bu with stream := s.bu.stream ++ [v] }).setOc (.active { a with bytes := a.bytes + 1 })
      else
        (s.setFr { s.fr with run := some { r with overrun := true } }).setOc
          (.active { a with qualifiers := { a.qualifiers with overrun := true } }) := by
  unfold deliverByte
  rewrite [if_pos h, if_neg (by simp [hs]), hc]
  rfl

/-- A received byte lies at the fill, which rises by one; every other index reads as before (R174). -/
theorem RecordBuffer.storeRecordByte_facts {b : RecordBuffer} (v : Byte) (hf : b.fill < 4096) (hwf : b.contents.wf = true) :
    (b.storeRecordByte v).fill = b.fill + 1 ∧ (b.storeRecordByte v).pointer = b.pointer ∧
      (b.storeRecordByte v).committed = b.committed ∧ (b.storeRecordByte v).contents.wf = true ∧
      (b.storeRecordByte v).contents.read b.fill = v ∧
      ∀ n, n ≠ b.fill → (b.storeRecordByte v).contents.read n = b.contents.read n := by
  have hfill : b.storeRecordByte v = { b with contents := b.contents.write b.fill v, fill := b.fill + 1 } := if_pos hf
  refine ⟨by rw [hfill], by rw [hfill], by rw [hfill], b.storeRecordByte_wf v hwf, ?_, fun n hn => ?_⟩
  · rw [hfill]
    exact BufferMemory.read_write_self _ none _ _ hwf
  · rw [hfill]
    exact BufferMemory.read_write_other _ none _ _ _ hwf hn

end CloseFrame

/-! ### The verdict a read-back frame gives -/

section Readback
variable {s : State} {a : Active} {f : ReadFrame} {e : WindowEntry}

/-- The verdict on the copy, taken from a Verify Unit that is to give it (R50, R111). -/
theorem givesVerdict_of {v : VerifyUnit} (hoc : s.oc = .active a) (hrep : v.reported = s.vu.reported) (fr : FrameReader) :
    givesVerdict a v.copyFailure v.soft s (takeCopyVerdict v.copyFailure.isNone v.soft ((s.setFr fr).setVu v.verdict.1)) := by
  rw [takeCopyVerdict_eq (s := (s.setFr fr).setVu v.verdict.1) (a := a) hoc]
  refine ⟨rfl, rfl, ?_, rfl, rfl, rfl, rfl, _, rfl, rfl, fun _ => rfl⟩
  exact congrArg (fun o => match v.copyFailure with | some k => some k | none => o) hrep

theorem takeCopyVerdict_vu (pass soft : Bool) (z : State) : (takeCopyVerdict pass soft z).vu = z.vu := by
  unfold takeCopyVerdict
  cases z.oc with
  | active b =>
    dsimp only
    split <;> rfl
  | _ => rfl

/-- The read-back of the entry left in LISTENING gives the copy's verdict. -/
theorem frame_gives_copyVerdict (hv : s.vu.state = .listening) (hw : s.vu.window = [e])
    (h : e.role = .lcf ∨ s.vu.blankNotice = true) (strict : Bool) (f : ReadFrame) :
    s.vu.frame strict f =
      ((s.vu.judged strict f e []).verdict.1,
        some (.copy (s.vu.judged strict f e []).copyFailure.isNone (s.vu.judged strict f e []).soft)) := by
  rw [VerifyUnit.frame_of_entry (by simp [hv]) hw]
  have hj := VerifyUnit.judged_of_listening (strict := strict) (f := f) (e := e) (rest := []) hv
  rw [VerifyUnit.afterRemoval_of_listening (by rw [hj]; exact hv) (by rw [hj]; rfl)]
  exact if_pos (h.imp_right fun hb => by rw [hj]; exact hb)

/-- The read-back of the second trailer frame gives the trailer verdict. -/
theorem frame_gives_trailerVerdict (hv : s.vu.state = .trailerCheck) (hw : s.vu.window = [e]) (hrole : e.role = .trailer)
    (hindex : e.index = 1) (strict : Bool) (f : ReadFrame) :
    s.vu.frame strict f =
      ((s.vu.judged strict f e []).trailerVerdict.1, some (.trailer (s.vu.judged strict f e []).trailerFailure.isNone)) := by
  rw [VerifyUnit.frame_of_entry (by simp [hv]) hw]
  have hj := VerifyUnit.judged_of_trailerCheck (strict := strict) (f := f) (e := e) (rest := []) hv
  rw [VerifyUnit.afterRemoval_of_trailerCheck (by rw [hj]; exact hv) (by rw [hj]; rfl)]
  exact if_pos ⟨hrole, hindex⟩

theorem strictVerify_of (hoc : s.oc = .active a) : s.strictVerify = a.profile.strict := by simp [State.strictVerify, hoc]

end Readback

/-- Settles O48: Table 6-2 and the counts; in READBACK by the state of the Verify Unit and its window, in PARSE by the run. -/
theorem closedFrameIsHandedOn : Obligations.ClosedFrameIsHandedOn := by
  refine ⟨judge_table, fun v f e h1 h2 h3 => v.tally_eq f e h1 h2 h3, fun r f => r.join_eq f, ?_⟩
  intro x s hund hx f first
  have row {t : State} (h : closeFrame s = t) : exec .frameClose s = .next t :=
    (exec_of_event hund rfl).trans (congrArg Host.Outcome.next h)
  have quiet {v : VerifyUnit} (hm : s.fr.mode = .readback) (h : s.vu.frame s.strictVerify f = (v, none)) :
      exec .frameClose s = .next { s with fr := { s.fr with frame := none }, vu := v } := by
    refine row ((closeFrame_readback hx hm).trans ?_)
    rw [h]
    rfl
  refine ⟨fun hm hv => quiet hm (VerifyUnit.frame_of_idle hv), fun hm hw => ⟨fun hv => ?_, fun hv => ?_⟩,
    fun a e e' rest hm hv hoc hw => ?_, fun a e rest hm hoc hw => ⟨fun hv hr hrole hblank => ?_, fun hv hno => ?_⟩,
    fun a e hm hoc hw => ⟨fun hv hlast => ?copy, fun hv hrole hindex hp => ?trailer⟩,
    fun rev hm hh => row ((closeFrame_parse hx hm).trans (if_pos hh)), fun rev r hm hh hr => ?parse⟩
  · exact quiet hm ((VerifyUnit.frame_of_empty (by simp [hv]) hw).trans (congrArg (·, none) (VerifyUnit.record_of_listening hv _)))
  · exact quiet hm ((VerifyUnit.frame_of_empty (by simp [hv]) hw).trans (congrArg (·, none) (VerifyUnit.record_of_trailerCheck hv _)))
  · have hj := VerifyUnit.judged_of_listening (strict := a.profile.strict) (f := f) (e := e) (rest := e' :: rest) hv
    refine quiet hm ((VerifyUnit.frame_of_entry (by simp [hv]) hw).trans ?_)
    rw [strictVerify_of hoc, hj]
    exact VerifyUnit.afterRemoval_of_entries (List.cons_ne_nil _ _)
  · cases hr
    have hj := VerifyUnit.judged_of_listening (strict := a.profile.strict) (f := f) (e := e) (rest := []) hv
    refine quiet hm ((VerifyUnit.frame_of_entry (by simp [hv]) hw).trans ?_)
    rw [strictVerify_of hoc, VerifyUnit.afterRemoval_of_listening (by rw [hj]; exact hv) (by rw [hj]; rfl), hj]
    exact if_neg fun h => h.elim hrole fun hb => Bool.false_ne_true (hblank.symm.trans hb)
  · have hj := VerifyUnit.judged_of_trailerCheck (strict := a.profile.strict) (f := f) (e := e) (rest := rest) hv
    refine quiet hm ((VerifyUnit.frame_of_entry (by simp [hv]) hw).trans ?_)
    rw [strictVerify_of hoc, hj]
    by_cases hr : rest = []
    · refine (VerifyUnit.afterRemoval_of_trailerCheck (by exact hv) (by exact hr)).trans ?_
      exact if_neg fun ⟨h1, h2⟩ => by rcases hno with h | h | h <;> contradiction
    · exact VerifyUnit.afterRemoval_of_entries hr
  case copy =>
    intro soft
    have hj := VerifyUnit.judged_of_listening (strict := a.profile.strict) (f := f) (e := e) (rest := []) hv
    have hclose : closeFrame s =
        takeCopyVerdict (s.vu.judged a.profile.strict f e []).copyFailure.isNone (s.vu.judged a.profile.strict f e []).soft
          ((s.setFr { s.fr with frame := none }).setVu (s.vu.judged a.profile.strict f e []).verdict.1) := by
      rw [closeFrame_readback hx hm, strictVerify_of hoc, frame_gives_copyVerdict hv hw hlast]
      rfl
    have hgives := givesVerdict_of (v := s.vu.judged a.profile.strict f e []) hoc (by rw [hj]; rfl) { s.fr with frame := none }
    rewrite [← hclose] at hgives
    have hfailure : (s.vu.judged a.profile.strict f e []).copyFailure = first s.vu.copyFailure (judge a.profile.strict f e) := by
      rw [hj]
      rfl
    have hsoft : (s.vu.judged a.profile.strict f e []).soft = soft := by
      rw [hj]
      simp only [VerifyUnit.tally, hv, decide_true, Bool.true_and]
      rfl
    rewrite [hfailure, hsoft] at hgives
    refine ⟨_, row rfl, hgives, ?_⟩
    have hvu : (closeFrame s).vu = (s.vu.judged a.profile.strict f e []).verdict.1 := by
      rw [hclose, takeCopyVerdict_vu]
      rfl
    dsimp only
    rw [hvu, hj]
    exact ⟨rfl, rfl, rfl⟩
  case trailer =>
    intro failure
    have hj := VerifyUnit.judged_of_trailerCheck (strict := a.profile.strict) (f := f) (e := e) (rest := []) hv
    have hfailure : (s.vu.judged a.profile.strict f e []).trailerFailure = failure := by
      rw [hj]
      rfl
    have hclose : closeFrame s =
        takeTrailerVerdict failure.isNone
          ((s.setFr { s.fr with frame := none }).setVu (s.vu.judged a.profile.strict f e []).trailerVerdict.1) := by
      rw [closeFrame_readback hx hm, strictVerify_of hoc, frame_gives_trailerVerdict hv hw hrole hindex, hfailure]
      rfl
    obtain ⟨h1, h2, h3⟩ := takeTrailerVerdict_ends (s := s)
      (r := (s.setFr { s.fr with frame := none }).setVu (s.vu.judged a.profile.strict f e []).trailerVerdict.1) hoc failure.isNone hp
      rfl rfl rfl rfl rfl
    rewrite [← hclose] at h1 h2 h3
    have hcounted : (closeFrame s).vu.corrected = (s.vu.tally f e).corrected ∧
        (closeFrame s).vu.marginal = (s.vu.tally f e).marginal ∧ (closeFrame s).vu.skew = (s.vu.tally f e).skew := by
      rw [h2, State.setVu_vu, hj]
      exact ⟨rfl, rfl, rfl⟩
    refine ⟨fun hf => ?_, fun k hf => ?_⟩
    · rewrite [hf] at h1 h3
      exact ⟨_, row rfl, h1, congrArg VerifyUnit.state h2, hcounted, h3⟩
    · rewrite [hf] at h1 h3
      refine ⟨_, row rfl, h1, (congrArg VerifyUnit.reported h2).trans ?_, hcounted, h3⟩
      simp only [State.setVu_vu, VerifyUnit.trailerVerdict, hfailure, hf]
  case parse =>
    intro joined byte index
    have hclose : closeFrame s = joinRun f (s.setFr { s.fr with frame := none }) :=
      (closeFrame_parse hx hm).trans (if_neg (by simp [hh]))
    refine ⟨fun h => ?_, fun a he hl hoc => ?_⟩
    · exact row (hclose.trans (joinRun_of_ineligible (s := s.setFr { s.fr with frame := none }) f hr h))
    have heligible := hclose.trans (joinRun_of_eligible (s := s.setFr { s.fr with frame := none }) f hr hoc he hl)
    refine ⟨fun hc => ?_, fun hc hst => ?_, fun hc hst hcode => ?_, fun hc hst hcode hlt => ?_, fun hc hst hcode hle => ?_⟩
    · exact row (heligible.trans (deliverByte_beyond _ hc))
    · exact row (heligible.trans (deliverByte_stopped _ hc hst))
    · intro old hfill hwf
      exact ⟨_, row (heligible.trans (deliverByte_read _ hc hst hcode)), RecordBuffer.storeRecordByte_facts byte hfill hwf⟩
    · refine row (heligible.trans ((deliverByte_stream _ hc (by exact hst) hcode).trans ?_))
      exact if_pos hlt
    · refine row (heligible.trans ((deliverByte_stream _ hc (by exact hst) hcode).trans ?_))
      exact if_neg (Nat.not_lt.mpr hle)

end Sys2Proof.Machine
end

section
/-! PROOF. What a close means to the command in force (R53, R54, R97, R98, R154, R161 to R165, R197, R199). -/

namespace Sys2Proof.Machine

/-! ### The credit of a close -/

section Credit
variable {a : Active} {r : CloseReport} {z : State}

/-- The command with the LONG RECORD of a close. -/
def Active.withLong (a : Active) (long : Bool) : Active :=
  { a with qualifiers := { a.qualifiers with longRecord := a.qualifiers.longRecord || long } }

theorem withLong_eq (a : Active) (long : Bool) :
    (if long then { a with qualifiers := { a.qualifiers with longRecord := true } } else a) = a.withLong long := by
  cases long
  · simp [Active.withLong]
  · simp [Active.withLong]

/-- What a close credits to each command. -/
theorem creditClose_eq (a : Active) (r : CloseReport) :
    creditClose a r =
      match a.cmd.code with
      | .read | .readStream =>
        if r.received then { a.withLong r.long with passed := raisePassed a.passed, ordinal := r.ident.map Ident.ordinal }
        else a.withLong r.long
      | .space | .spaceMarks =>
        if r.trailer = .void then { a.withLong r.long with ordinal := r.ident.map Ident.ordinal }
        else
          { a.withLong r.long with
            ordinal := r.ident.map Ident.ordinal, passed := raisePassed a.passed
            marks := if r.kind = .mark then a.marks + 1 else a.marks }
      | .locate =>
        match a.phase with
        | .turnStop | .turnRamp | .turnPass => { a.withLong r.long with ordinal := r.ident.map Ident.ordinal }
        | _ => { a.withLong r.long with passed := raisePassed a.passed, ordinal := r.ident.map Ident.ordinal }
      | _ => a.withLong r.long := by
  unfold creditClose
  rewrite [withLong_eq]
  rfl

/-- The credit moves the count, the marks, the ordinal and the qualifiers. -/
theorem creditClose_same (a : Active) (r : CloseReport) :
    creditClose a r =
      { a with
        passed := (creditClose a r).passed, marks := (creditClose a r).marks, ordinal := (creditClose a r).ordinal
        qualifiers := (creditClose a r).qualifiers } := by
  rw [creditClose_eq]
  cases a.cmd.code <;> dsimp only <;> try rfl
  all_goals split <;> rfl

/-- The active record and the state once a void's bytes are discarded. -/
def credited (a : Active) (r : CloseReport) (z : State) : Active := (discardVoid (creditClose a r) r z).1
def spared (a : Active) (r : CloseReport) (z : State) : State := (discardVoid (creditClose a r) r z).2

/-- The close of a received void discards the bytes of a READ (R98, R174). -/
def discards (a : Active) (r : CloseReport) : Prop := a.cmd.code = .read ∧ r.received = true ∧ r.trailer = .void

theorem discardVoid_of_kept (h : ¬ discards a r ∨ z.hw.resetPending = true) :
    credited a r z = creditClose a r ∧ spared a r z = z := by
  unfold credited spared
  rcases discardVoid_cases z (creditClose a r) r with e | ⟨h1, h2, h3, h4, -⟩
  · rw [e]
    exact ⟨rfl, rfl⟩
  · rcases h with h | h
    · exact absurd ⟨(creditClose_cmd a r) ▸ h1, h2, h3⟩ h
    · simp [h] at h4

theorem discardVoid_of_discarded (h : discards a r) (hp : z.hw.resetPending = false) :
    credited a r z = { creditClose a r with bytes := 0 } ∧ spared a r z = z.setBu (z.bu.setFill a.cmd.buffer 0) := by
  obtain ⟨h1, h2, h3⟩ := h
  unfold credited spared discardVoid
  rw [if_pos ⟨by rw [creditClose_cmd]; exact h1, h2, h3, hp⟩]
  exact ⟨rfl, congrArg (fun c : Command => z.setBu (z.bu.setFill c.buffer 0)) (creditClose_cmd a r)⟩

theorem credited_same (a : Active) (r : CloseReport) (z : State) :
    credited a r z = { creditClose a r with bytes := (credited a r z).bytes } ∧
      (spared a r z).fr = z.fr ∧ (spared a r z).hw = z.hw ∧ (spared a r z).rc = z.rc := by
  unfold credited spared
  rcases discardVoid_cases z (creditClose a r) r with e | ⟨-, -, -, -, e⟩ <;> rw [e] <;> exact ⟨rfl, rfl, rfl, rfl⟩

end Credit

/-! ### The close applied (R53, R197, R199) -/

section Apply
variable {s z : State} {a : Active} {r : CloseReport}

theorem applyClose_eq (r : CloseReport) (hoc : z.oc = .active a) :
    applyClose r z =
      if z.hw.resetPending then controlResetEffect z
      else if a.abortMark then
        conclude { credited a r z with qualifiers := recordQualifiers r (credited a r z).qualifiers } .aborted (.finish 16)
          (if r.received then stopReceiving (spared a r z) else spared a r z)
      else
        match a.cmd.code with
        | .read | .readStream =>
          if r.received then closeReceived (credited a r z) r (spared a r z) else (spared a r z).setOc (.active (credited a r z))
        | .space | .spaceMarks => closeSpace (creditClose a r) r z
        | .locate => closeLocate (creditClose a r) r z
        | _ => z.setOc (.active (creditClose a r)) := by
  obtain ⟨hcredit, -, hhw, -⟩ := credited_same a r z
  have hmark : (credited a r z).abortMark = a.abortMark := by rw [hcredit, creditClose_same]
  have hcode : (credited a r z).cmd.code = a.cmd.code := by rw [hcredit, creditClose_same]
  have e : applyClose r z =
      if (spared a r z).hw.resetPending then controlResetEffect (spared a r z)
      else if (credited a r z).abortMark then
        conclude { credited a r z with qualifiers := recordQualifiers r (credited a r z).qualifiers } .aborted (.finish 16)
          (if r.received then stopReceiving (spared a r z) else spared a r z)
      else
        match (credited a r z).cmd.code with
        | .read | .readStream =>
          if r.received then closeReceived (credited a r z) r (spared a r z) else (spared a r z).setOc (.active (credited a r z))
        | .space | .spaceMarks => closeSpace (credited a r z) r (spared a r z)
        | .locate => closeLocate (credited a r z) r (spared a r z)
        | _ => (spared a r z).setOc (.active (credited a r z)) := by
    unfold applyClose
    rewrite [hoc]
    rfl
  rw [e, hmark, hcode, hhw]
  by_cases hp : z.hw.resetPending = true
  · rw [if_pos hp, if_pos hp, (discardVoid_of_kept (.inr hp)).2]
  · rw [if_neg hp, if_neg hp]
    have other (hc : a.cmd.code ≠ .read) : credited a r z = creditClose a r ∧ spared a r z = z :=
      discardVoid_of_kept (.inl fun hd => hc hd.1)
    cases hc : a.cmd.code <;> first | rfl | (obtain ⟨e1, e2⟩ := other (by rw [hc]; nofun); rw [e1, e2])

theorem applyClose_pending (r : CloseReport) (hoc : z.oc = .active a) (hp : z.hw.resetPending = true) :
    applyClose r z = controlResetEffect z := (applyClose_eq r hoc).trans (if_pos hp)

theorem applyClose_aborted (r : CloseReport) (hoc : z.oc = .active a) (hp : z.hw.resetPending = false) (ha : a.abortMark = true) :
    applyClose r z =
      conclude { credited a r z with qualifiers := recordQualifiers r (credited a r z).qualifiers } .aborted (.finish 16)
        (if r.received then stopReceiving (spared a r z) else spared a r z) :=
  (applyClose_eq r hoc).trans ((if_neg (by simp [hp])).trans (if_pos ha))

theorem applyClose_of_command (r : CloseReport) (hoc : z.oc = .active a) (hp : z.hw.resetPending = false) (ha : a.abortMark = false) :
    applyClose r z =
      match a.cmd.code with
      | .read | .readStream =>
        if r.received then closeReceived (credited a r z) r (spared a r z) else (spared a r z).setOc (.active (credited a r z))
      | .space | .spaceMarks => closeSpace (creditClose a r) r z
      | .locate => closeLocate (creditClose a r) r z
      | _ => z.setOc (.active (creditClose a r)) :=
  (applyClose_eq r hoc).trans ((if_neg (by simp [hp])).trans (if_neg (by simp [ha])))

end Apply

/-! ### The completion posted with a close (R154, R170, R184, R197) -/

section Completes
variable {s z : State} {a b : Active} {o : OpenRecord} {h : Header} {k : Trailer}

/-- The state with another command account of the reader. -/
def State.withAccount (z : State) (acct : ReadAccount) : State := z.setFr { z.fr with account := acct }

theorem withAccount_self (z : State) : z.withAccount z.fr.account = z := rfl

/-- `z` is the state in which a close reaches the command `a`: as `s`, but for reader and catalogue, and no record open. -/
structure ClosedOver (s z : State) (a : Active) : Prop where
  hw : z.hw = s.hw
  cu : z.cu = s.cu
  oc : z.oc = .active a
  tlc : z.tlc = s.tlc
  bu : z.bu = s.bu
  cmp : z.cmp = s.cmp
  record : z.fr.record = none

/-- The completion of a close in FINISH, with the account of the reader at its posting. -/
def CompletesClose (a : Active) (o : OpenRecord) (h : Header) (k : Trailer) (outcome : CmdOutcome) (acct : ReadAccount) (s t : State) :
    Prop :=
  let discarded : Prop := a.cmd.code = .read ∧ o.received = true ∧ k = .void
  endsInFinish a outcome 16 s t ∧
    (discarded → t.bu.buffer a.cmd.buffer = { s.bu.buffer a.cmd.buffer with committed := false, fill := 0 }) ∧
    (¬discarded → ∀ b : BufferId, (t.bu.buffer b).fill = (s.bu.buffer b).fill) ∧
    ∀ c, t.cmp = s.cmp.place c →
      carriesClose a o h k outcome s c ∧
        ((a.cmd.code = .read ∨ a.cmd.code = .readStream) →
          (discarded → c.byteCount = 0) ∧ (¬discarded → c.byteCount = a.bytes) ∧
            c.corrected = acct.corrected ∧ c.marginal = acct.marginal ∧ c.skew = acct.skew ∧
            c.qualifiers.corrected = decide (0 < acct.corrected) ∧
            c.qualifiers.marginal = decide (0 < acct.marginal) ∧ c.qualifiers.skew = decide (0 < acct.skew))

/-- The bytes and the counts of a READ or READ STREAM as they are posted. -/
theorem postedRecord_of_receiver (hc : b.cmd.code = .read ∨ b.cmd.code = .readStream) (hr : z.fr.record = none) (o : CmdOutcome) :
    (postedRecord b o z).byteCount = b.bytes ∧ (postedRecord b o z).corrected = z.fr.account.corrected ∧
      (postedRecord b o z).marginal = z.fr.account.marginal ∧ (postedRecord b o z).skew = z.fr.account.skew ∧
      (postedRecord b o z).qualifiers.corrected = decide (0 < z.fr.account.corrected) ∧
      (postedRecord b o z).qualifiers.marginal = decide (0 < z.fr.account.marginal) ∧
      (postedRecord b o z).qualifiers.skew = decide (0 < z.fr.account.skew) := by
  obtain ⟨e, stale, eq⟩ := postedRecord_eq b o z
  rw [e, eq, Active.withOpenRecord_none b z.fr hr]
  rcases hc with hc | hc <;> simp [completionOf, hc, CommandCode.writesCopies, CommandCode.receives]

/-- The count, the ordinal and LONG RECORD of a read-class command as they are posted. -/
theorem postedRecord_of_reader (hc : b.cmd.code.readClass = true) (hr : z.fr.record = none) (o : CmdOutcome) :
    (postedRecord b o z).passed = b.passed ∧ (postedRecord b o z).ordinal = b.ordinal ∧
      (postedRecord b o z).qualifiers.longRecord = b.qualifiers.longRecord ∧
      (postedRecord b o z).qualifiers.fragments = z.fr.account.fragments := by
  obtain ⟨e, stale, eq⟩ := postedRecord_eq b o z
  rw [e, eq, Active.withOpenRecord_none b z.fr hr]
  simp [completionOf, hc]

theorem conclude_finish_bu (b : Active) (o : CmdOutcome) (n : Nat) (z : State) (hp : z.hw.resetPending = false) (i : BufferId) :
    (conclude b o (.finish n) z).bu.buffer i =
      { z.bu.buffer i with committed := !b.cmd.owns i && (z.bu.buffer i).committed } := by
  rw [show conclude b o (.finish n) z = enterFinish b n (postActive b o z) by simp [conclude, hp]]
  exact post_buffer z b.cmd (completionOf (b.withOpenRecord z.fr) o z) i

/-- What a close posts: the command's credit, the conditions of a record received, the bytes and the counts. -/
theorem conclude_completes (hz : ClosedOver s z a) (hp : s.hw.resetPending = false) (outcome : CmdOutcome) {acct : ReadAccount}
    (h1 : acct.corrected = z.fr.account.corrected) (h2 : acct.marginal = z.fr.account.marginal) (h3 : acct.skew = z.fr.account.skew)
    {r : CloseReport} (hr : r = closeReportOf s o h k) (hb : b = credited a r z) :
    CompletesClose a o h k outcome z.fr.account s
      (conclude { b with qualifiers := withoutOwnName outcome (recordQualifiers r b.qualifiers) } outcome (.finish 16)
        ((spared a r z).withAccount acct)) := by
  obtain ⟨hcredit, hfr, hhw, -⟩ := credited_same a r z
  rw [← hb] at hcredit
  have hcmd : b.cmd = a.cmd := by rw [hcredit, creditClose_same]
  have hrev : b.reverse = a.reverse := by rw [hcredit, creditClose_same]
  have hpend : ((spared a r z).withAccount acct).hw.resetPending = false := (congrArg HostWindow.resetPending (hhw.trans hz.hw)).trans hp
  have hrecord : ((spared a r z).withAccount acct).fr.record = none := (congrArg FrameReader.record hfr).trans hz.record
  have hsame : (spared a r z).cmp = s.cmp ∧ (spared a r z).cu = s.cu := by
    unfold spared
    rcases discardVoid_cases z (creditClose a r) r with e | ⟨-, -, -, -, e⟩ <;> rw [e] <;> exact ⟨hz.cmp, hz.cu⟩
  have hreport : r.received = o.received ∧ r.trailer = k := by rw [hr]; exact ⟨rfl, rfl⟩
  have hiff : (a.cmd.code = .read ∧ o.received = true ∧ k = .void) ↔ discards a r := by
    rw [discards, hreport.1, hreport.2]
  refine ⟨conclude_finish 16 hcmd hrev hsame.1 hsame.2 hpend, fun hd => ?discarded, fun hd i => ?kept, fun c hc => ?completion⟩
  case discarded =>
    rw [conclude_finish_bu _ _ _ _ hpend, hcmd,
      show (spared a r z).withAccount acct = (z.setBu (z.bu.setFill a.cmd.buffer 0)).withAccount acct by
        rw [(discardVoid_of_discarded (hiff.mp hd) ((congrArg HostWindow.resetPending hz.hw).trans hp)).2]]
    change ({ (z.bu.setFill a.cmd.buffer 0).buffer a.cmd.buffer with committed := _ } : RecordBuffer) = _
    rw [show (z.bu.setFill a.cmd.buffer 0).buffer a.cmd.buffer = { z.bu.buffer a.cmd.buffer with fill := 0 } from
      PerBuffer.get_set_self _ _ _, hz.bu]
    simp [Command.owns, CommandCode.namesBuffer, hd.1]
  case kept =>
    rw [conclude_finish_bu _ _ _ _ hpend, (discardVoid_of_kept (.inl fun h => hd (hiff.mpr h))).2]
    exact congrArg (fun bu : BufferUnit => (bu.buffer i).fill) hz.bu
  case completion =>
    rw [conclude_cmp _ _ _ _ hpend] at hc
    have hc' : c = _ := CompletionUnit.place_injective (hc.symm.trans (congrArg (fun m => CompletionUnit.place m _) hsame.1))
    rw [hc']
    have hpassed : b.passed = (creditClose a r).passed := by rw [hcredit]
    have hordinal : b.ordinal = (creditClose a r).ordinal := by rw [hcredit]
    have hq : b.qualifiers = (creditClose a r).qualifiers := by rw [hcredit]
    refine ⟨carriesClose_postedRecord hcmd hrecord (by rw [← hr]; exact hpassed) (by rw [← hr]; exact hordinal)
      (by rw [← hr, ← hq]), fun hcode => ?_⟩
    obtain ⟨e1, e2, e3, e4, e5, e6, e7⟩ :=
      postedRecord_of_receiver (b := { b with qualifiers := withoutOwnName outcome (recordQualifiers r b.qualifiers) })
        (by rw [show _ = a.cmd from hcmd]; exact hcode) hrecord outcome
    have a1 : ((spared a r z).withAccount acct).fr.account = acct := rfl
    rw [a1] at e2 e3 e4 e5 e6 e7
    rw [h1] at e2 e5
    rw [h2] at e3 e6
    rw [h3] at e4 e7
    refine ⟨fun hd => e1.trans ?_, fun hd => e1.trans ?_, e2, e3, e4, e5, e6, e7⟩
    · rw [hb, (discardVoid_of_discarded (hiff.mp hd) ((congrArg HostWindow.resetPending hz.hw).trans hp)).1]
    · rw [hb, (discardVoid_of_kept (.inl fun h => hd (hiff.mpr h))).1, creditClose_same]

end Completes

end Sys2Proof.Machine
end

section
/-! PROOF. A close to a SPACE, SPACE MARKS or LOCATE (R53, R54, R161 to R165), and to a READ or READ STREAM (R97, R98). -/

namespace Sys2Proof.Machine

/-! ### What follows the close -/

section After
variable {s z x t : State} {a b : Active} {o : OpenRecord} {h : Header} {k : Trailer} {next : Phase} {after : State → State}

/-- What `after`, the rest of a row after a close or a loss, leaves of a FINISH, of the completions, the queue and the buffers. -/
structure EndKept (after : State → State) : Prop where
  keeps : ∀ x, (after x).cmp = x.cmp ∧ (after x).cu = x.cu ∧ (after x).bu = x.bu ∧ (after x).tlc = x.tlc
  ends : ∀ x f, x.oc = .finishing f → (after x).oc = x.oc ∧ (after x).timer = x.timer

/-- What `after`, the rest of a row after the close in `z`, leaves besides: the command `a` that goes on in the phase `next`, and the
stop of TURN. -/
structure AfterClose (z : State) (a : Active) (next : Phase) (after : State → State) : Prop extends EndKept after where
  goes : ∀ b x, b.phase = a.phase → x.oc = .active b → x.fr = { z.fr with account := x.fr.account } →
    (after x).oc = .active { b with phase := next } ∧ (next = .search → (after x).fr.search = some 0) ∧
      (next = .ramp → (after x).fr.search = none)
  turns : ∀ x b, x.oc = .active b → b.phase = .turnStop → x.fr.search = none → (after x).oc = x.oc ∧ (after x).fr.search = none

theorem endsInFinish_after {o : CmdOutcome} {n : Nat} (hafter : EndKept after) (h : endsInFinish b o n s x) :
    endsInFinish b o n s (after x) := by
  obtain ⟨hcmp, hcu, hbu, -⟩ := hafter.keeps x
  obtain ⟨⟨hr, hb, hq⟩, hoc, htimer⟩ := h
  obtain ⟨eoc, etimer⟩ := hafter.ends x _ hoc
  refine ⟨⟨?_, ?_, hcu.trans hq⟩, eoc.trans hoc, etimer.trans htimer⟩
  · rw [hcmp]
    exact hr
  · rw [hbu]
    exact hb

theorem CompletesClose.afterwards {outcome : CmdOutcome} {acct : ReadAccount} (hafter : EndKept after)
    (hx : CompletesClose b o h k outcome acct s x) : CompletesClose b o h k outcome acct s (after x) := by
  obtain ⟨hcmp, -, hbu, -⟩ := hafter.keeps x
  obtain ⟨h1, h2, h3, h4⟩ := hx
  refine ⟨endsInFinish_after hafter h1, ?_, ?_, ?_⟩
  · rw [hbu]
    exact h2
  · rw [hbu]
    exact h3
  · rw [hcmp]
    exact h4

/-- The command goes on as `b` in the phase `next`. -/
def GoesOn (b : Active) (next : Phase) (s t : State) : Prop :=
  t.oc = .active { b with phase := next } ∧ (next = .search → t.fr.search = some 0) ∧ (next = .ramp → t.fr.search = none) ∧
    t.cmp = s.cmp ∧ t.cu = s.cu ∧ t.bu = s.bu

/-- The command completes with the count, the ordinal and the LONG RECORD of `b`. -/
def CompletesCount (a b : Active) (o : CmdOutcome) (s t : State) : Prop :=
  endsInFinish a o 16 s t ∧
    ∀ r, t.cmp = s.cmp.place r → r.passed = b.passed ∧ r.ordinal = b.ordinal ∧ r.qualifiers.longRecord = b.qualifiers.longRecord

/-- The command `b` enters TURN with STOP sent (R54). -/
def EntersTurn (b : Active) (u : UnitId) (s t : State) : Prop :=
  t.oc = .active { b with phase := .turnStop } ∧ t.tlc.selected = some u ∧
    (t.link u).state = .stopping ∧ t.tlc.request = some .stop ∧ t.tlc.stopTimer = true ∧ t.fr.search = none ∧
    t.cmp = s.cmp ∧ t.cu = s.cu ∧ t.bu = s.bu

/-- The command goes on with the credit of the close. -/
theorem goesOn_of (hafter : AfterClose z a next after) (hz : ClosedOver s z a) (hb : b.phase = a.phase) :
    GoesOn b next s (after (z.setOc (.active b))) := by
  obtain ⟨h1, h2, h3⟩ := hafter.goes b (z.setOc (.active b)) hb rfl rfl
  obtain ⟨k1, k2, k3, -⟩ := hafter.keeps (z.setOc (.active b))
  exact ⟨h1, h2, h3, k1.trans hz.cmp, k2.trans hz.cu, k3.trans hz.bu⟩

/-- A SPACE, SPACE MARKS or LOCATE completes with the credit of the close. -/
theorem completes_of (hafter : EndKept after) (hz : ClosedOver s z a) (hp : s.hw.resetPending = false)
    (hread : a.cmd.code.readClass = true) (hb : b.cmd = a.cmd) (hrev : b.reverse = a.reverse) (outcome : CmdOutcome) :
    CompletesCount a b outcome s (after (conclude b outcome (.finish 16) z)) := by
  have hpend : z.hw.resetPending = false := (congrArg HostWindow.resetPending hz.hw).trans hp
  refine ⟨endsInFinish_after hafter (conclude_finish 16 hb hrev hz.cmp hz.cu hpend), fun r hr => ?_⟩
  rw [(hafter.keeps _).1, conclude_cmp _ _ _ _ hpend] at hr
  have hr' : r = _ := CompletionUnit.place_injective (hr.symm.trans (congrArg (fun m => CompletionUnit.place m _) hz.cmp))
  rw [hr']
  obtain ⟨h1, h2, h3, -⟩ := postedRecord_of_reader (b := b) (by rw [hb]; exact hread) hz.record outcome
  exact ⟨h1, h2, h3⟩

end After

/-! ### SPACE and SPACE MARKS (R161, R162) -/

section Counts
variable {s z : State} {a b : Active} {o : OpenRecord} {h : Header} {k : Trailer} {next : Phase} {after : State → State}

/-- The command that has seen the record, and the one that has counted it. -/
def Active.seen (a : Active) (h : Header) : Active := { a.withLong h.long with ordinal := h.ident.map Ident.ordinal }
def Active.counted (a : Active) (h : Header) : Active := { a.seen h with passed := min (a.passed + 1) 4095 }

theorem creditClose_of_space (hc : a.cmd.code = .space ∨ a.cmd.code = .spaceMarks) :
    creditClose a (closeReportOf s o h k) =
      if k = .void then a.seen h
      else if h.kind = .mark then { a.counted h with marks := a.marks + 1 }
      else a.counted h := by
  have hmarks : (if h.kind = .mark then { a.counted h with marks := a.marks + 1 } else a.counted h) =
      { a.counted h with marks := if h.kind = .mark then a.marks + 1 else a.marks } := by split <;> rfl
  rw [creditClose_eq, hmarks]
  rcases hc with hc | hc <;> rewrite [hc] <;> rfl

theorem closeSpace_void (b : Active) (hk : k = .void) :
    closeSpace b (closeReportOf s o h k) z = z.setOc (.active b) := if_pos hk

theorem closeSpace_of_space (hc : b.cmd.code = .space) (hk : k ≠ .void) :
    closeSpace b (closeReportOf s o h k) z =
      if h.kind = .mark then conclude b .mark (.finish 16) z
      else if b.cmd.count ≤ b.passed then conclude b .done (.finish 16) z
      else z.setOc (.active b) := by
  exact (if_neg hk).trans (if_neg (by rw [hc]; nofun))

theorem closeSpace_of_marks (hc : b.cmd.code = .spaceMarks) (hk : k ≠ .void) :
    closeSpace b (closeReportOf s o h k) z =
      if h.kind = .mark ∧ b.cmd.count ≤ b.marks then conclude b .done (.finish 16) z else z.setOc (.active b) := by
  exact (if_neg hk).trans (if_pos hc)

theorem applyClose_of_space (hz : ClosedOver s z a) (hp : s.hw.resetPending = false) (ha : a.abortMark = false)
    (hc : a.cmd.code = .space ∨ a.cmd.code = .spaceMarks) (r : CloseReport) :
    applyClose r z = closeSpace (creditClose a r) r z := by
  rw [applyClose_of_command r hz.oc ((congrArg HostWindow.resetPending hz.hw).trans hp) ha]
  rcases hc with hc | hc <;> rw [hc]

theorem applyClose_of_locate (hz : ClosedOver s z a) (hp : s.hw.resetPending = false) (ha : a.abortMark = false)
    (hc : a.cmd.code = .locate) (r : CloseReport) : applyClose r z = closeLocate (creditClose a r) r z := by
  rw [applyClose_of_command r hz.oc ((congrArg HostWindow.resetPending hz.hw).trans hp) ha, hc]

/-! ### LOCATE (R54, R164, R165) -/

/-- Outside TURN a LOCATE counts the record. -/
theorem creditClose_of_locate (hc : a.cmd.code = .locate) (hp : a.phase ≠ .turnStop ∧ a.phase ≠ .turnRamp ∧ a.phase ≠ .turnPass) :
    creditClose a (closeReportOf s o h k) = a.counted h := by
  rw [creditClose_eq, hc]
  obtain ⟨h1, h2, h3⟩ := hp
  cases hph : a.phase <;> first | rfl | contradiction

theorem closeLocate_of_plan {m : Nat} {rev : Bool} {r : CloseReport}
    (hp : b.phase ≠ .turnStop ∧ b.phase ≠ .turnRamp ∧ b.phase ≠ .turnPass) (hplan : b.plan = some (.space m rev)) :
    closeLocate b r z = if m ≤ b.passed then conclude b .done (.finish 16) z else z.setOc (.active b) := by
  obtain ⟨h1, h2, h3⟩ := hp
  unfold closeLocate
  rw [hplan]
  cases hph : b.phase <;> first | rfl | contradiction

theorem closeLocate_of_search {r : CloseReport} (hp : b.phase ≠ .turnStop ∧ b.phase ≠ .turnRamp ∧ b.phase ≠ .turnPass)
    (hplan : b.plan = some .search) :
    closeLocate b r z =
      if r.ident.map Ident.ordinal = some b.cmd.arg ∧ r.trailer ≠ .void then enterTurn b z
      else if b.endRisen = true ∨ b.cmd.count ≤ b.passed then conclude b .notFound (.finish 16) z
      else z.setOc (.active b) := by
  obtain ⟨h1, h2, h3⟩ := hp
  unfold closeLocate
  rw [hplan]
  cases hph : b.phase <;> first | rfl | contradiction

/-- The stop of TURN of a unit under way and moving: STOP sent, the stop timer running (R27, R54). -/
theorem enterTurn_of_moving {u : UnitId} (hsel : z.tlc.selected = some u) (hw : z.underWay u) (hm : (z.link u).lines.moving = true)
    (b : Active) :
    enterTurn b z = sendStop (enterPhase b .turnStop none (z.setFr { z.fr with search := none })) ∧
      (enterTurn b z).oc = .active { b with phase := .turnStop } ∧ (enterTurn b z).tlc.selected = some u ∧
      ((enterTurn b z).link u).state = .stopping ∧ (enterTurn b z).tlc.request = some .stop ∧
      (enterTurn b z).tlc.stopTimer = true ∧ (enterTurn b z).fr = { z.fr with search := none } ∧
      (enterTurn b z).cmp = z.cmp ∧ (enterTurn b z).cu = z.cu ∧ (enterTurn b z).bu = z.bu ∧ (enterTurn b z).rc = z.rc := by
  have hstop := sendStop_of_underWay (s := enterPhase b .turnStop none (z.setFr { z.fr with search := none })) (u := u) hsel hw
  rw [show ((enterPhase b .turnStop none (z.setFr { z.fr with search := none })).link u).lines.moving = true from hm, if_pos rfl] at hstop
  have hrun : (sendStop (enterPhase b .turnStop none (z.setFr { z.fr with search := none }))).stopRunning = true := by
    rw [hstop]
    simp [State.stopRunning, State.setUnitState, State.setLink, hsel, State.link, State.setTlc]
  have e : enterTurn b z = sendStop (enterPhase b .turnStop none (z.setFr { z.fr with search := none })) := if_pos hrun
  refine ⟨e, ?_⟩
  rw [e, hstop]
  refine ⟨rfl, hsel, ?_, rfl, rfl, rfl, rfl, rfl, rfl, rfl⟩
  exact congrArg UnitLink.state (State.link_setLink _ u _)

/-- A close to a SPACE (R161). -/
theorem closeCounts_space (hz : ClosedOver s z a) (hp : s.hw.resetPending = false) (ha : a.abortMark = false)
    (hafter : AfterClose z a next after) (hc : a.cmd.code = .space) {t : State}
    (ht : t = after (applyClose (closeReportOf s o h k) z)) :
    (k = .void → GoesOn (a.seen h) next s t) ∧ (k ≠ .void → h.kind = .mark → CompletesCount a (a.counted h) .mark s t) ∧
      (k ≠ .void → h.kind = .data → a.cmd.count ≤ min (a.passed + 1) 4095 → CompletesCount a (a.counted h) .done s t) ∧
      (k ≠ .void → h.kind = .data → min (a.passed + 1) 4095 < a.cmd.count → GoesOn (a.counted h) next s t) := by
  have hread : a.cmd.code.readClass = true := by rw [hc]; rfl
  rw [applyClose_of_space hz hp ha (.inl hc), creditClose_of_space (.inl hc)] at ht
  refine ⟨fun hk => ?_, fun hk hm => ?_, fun hk hd hn => ?_, fun hk hd hn => ?_⟩
  · rw [if_pos hk, closeSpace_void _ hk] at ht
    rw [ht]
    exact goesOn_of (b := a.seen h) hafter hz rfl
  · rw [if_neg hk, if_pos hm, closeSpace_of_space (b := { a.counted h with marks := a.marks + 1 }) hc hk, if_pos hm] at ht
    rw [ht]
    exact completes_of (b := { a.counted h with marks := a.marks + 1 }) hafter.toEndKept hz hp hread rfl rfl .mark
  all_goals
    have hm : ¬ h.kind = .mark := by rw [hd]; nofun
    rw [if_neg hk, if_neg hm, closeSpace_of_space (b := a.counted h) hc hk, if_neg hm] at ht
  · rw [if_pos (show (a.counted h).cmd.count ≤ (a.counted h).passed from hn)] at ht
    rw [ht]
    exact completes_of (b := a.counted h) hafter.toEndKept hz hp hread rfl rfl .done
  · rw [if_neg (show ¬ (a.counted h).cmd.count ≤ (a.counted h).passed from Nat.not_le.mpr hn)] at ht
    rw [ht]
    exact goesOn_of (b := a.counted h) hafter hz rfl

/-- A close to a SPACE MARKS (R162). -/
theorem closeCounts_marks (hz : ClosedOver s z a) (hp : s.hw.resetPending = false) (ha : a.abortMark = false)
    (hafter : AfterClose z a next after) (hc : a.cmd.code = .spaceMarks) {t : State}
    (ht : t = after (applyClose (closeReportOf s o h k) z)) :
    (k = .void → GoesOn (a.seen h) next s t) ∧
      (k ≠ .void → h.kind = .mark → a.cmd.count ≤ a.marks + 1 → CompletesCount a (a.counted h) .done s t) ∧
      (k ≠ .void → h.kind = .mark → a.marks + 1 < a.cmd.count → GoesOn { a.counted h with marks := a.marks + 1 } next s t) ∧
      (k ≠ .void → h.kind = .data → GoesOn (a.counted h) next s t) := by
  have hread : a.cmd.code.readClass = true := by rw [hc]; rfl
  rw [applyClose_of_space hz hp ha (.inr hc), creditClose_of_space (.inr hc)] at ht
  refine ⟨fun hk => ?_, fun hk hm hn => ?_, fun hk hm hn => ?_, fun hk hd => ?_⟩
  · rw [if_pos hk, closeSpace_void _ hk] at ht
    rw [ht]
    exact goesOn_of (b := a.seen h) hafter hz rfl
  · rw [if_neg hk, if_pos hm, closeSpace_of_marks (b := { a.counted h with marks := a.marks + 1 }) hc hk, if_pos ⟨hm, hn⟩] at ht
    rw [ht]
    exact completes_of (b := { a.counted h with marks := a.marks + 1 }) hafter.toEndKept hz hp hread rfl rfl .done
  · rw [if_neg hk, if_pos hm, closeSpace_of_marks (b := { a.counted h with marks := a.marks + 1 }) hc hk,
      if_neg fun hx => absurd hx.2 (Nat.not_le.mpr hn)] at ht
    rw [ht]
    exact goesOn_of (b := { a.counted h with marks := a.marks + 1 }) hafter hz rfl
  · have hm : ¬ h.kind = .mark := by rw [hd]; nofun
    rw [if_neg hk, if_neg hm, closeSpace_of_marks (b := a.counted h) hc hk, if_neg fun hx => hm hx.1] at ht
    rw [ht]
    exact goesOn_of (b := a.counted h) hafter hz rfl

theorem enterTurn_enters {u : UnitId} (hz : ClosedOver s z a) (hafter : AfterClose z a next after) (hsel : s.tlc.selected = some u)
    (hw : s.underWay u) (hm : (s.link u).lines.moving = true) (b : Active) : EntersTurn b u s (after (enterTurn b z)) := by
  have hlink : ∀ v, z.link v = s.link v := fun v => by simp only [State.link, hz.tlc]
  obtain ⟨-, h1, h2, h3, h4, h5, h6, h7, h8, h9, -⟩ := enterTurn_of_moving (z := z) (u := u) (by rw [hz.tlc]; exact hsel)
    (by unfold State.underWay; rw [hlink]; exact hw) (by rw [hlink]; exact hm) b
  obtain ⟨k1, k2, k3, k4⟩ := hafter.keeps (enterTurn b z)
  obtain ⟨e1, e2⟩ := hafter.turns _ _ h1 rfl (by rw [h6])
  refine ⟨e1.trans h1, by rw [k4, h2], ?_, by rw [k4, h4], by rw [k4, h5], e2, k1.trans (h7.trans hz.cmp), k2.trans (h8.trans hz.cu),
    k3.trans (h9.trans hz.bu)⟩
  rw [show (after (enterTurn b z)).link u = (enterTurn b z).link u by simp only [State.link, k4], h3]

/-- A close to a LOCATE outside TURN (R54, R164, R165). -/
theorem closeCounts_locate (hz : ClosedOver s z a) (hp : s.hw.resetPending = false) (ha : a.abortMark = false)
    (hph : a.phase ≠ .turnStop ∧ a.phase ≠ .turnRamp ∧ a.phase ≠ .turnPass) (hafter : AfterClose z a next after)
    (hc : a.cmd.code = .locate) {t : State} (ht : t = after (applyClose (closeReportOf s o h k) z)) :
    (∀ m rev, a.plan = some (.space m rev) →
      (m ≤ min (a.passed + 1) 4095 → CompletesCount a (a.counted h) .done s t) ∧
        (min (a.passed + 1) 4095 < m → GoesOn (a.counted h) next s t)) ∧
    (a.plan = some .search →
      (h.ident.map Ident.ordinal = some a.cmd.arg → k ≠ .void →
        ∀ u, s.tlc.selected = some u → s.underWay u → (s.link u).lines.moving = true → EntersTurn (a.counted h) u s t) ∧
      ((h.ident.map Ident.ordinal ≠ some a.cmd.arg ∨ k = .void) →
        ((a.endRisen = true ∨ a.cmd.count ≤ min (a.passed + 1) 4095) → CompletesCount a (a.counted h) .notFound s t) ∧
        (a.endRisen = false → min (a.passed + 1) 4095 < a.cmd.count → GoesOn (a.counted h) next s t))) := by
  have hread : a.cmd.code.readClass = true := by rw [hc]; rfl
  rw [applyClose_of_locate hz hp ha hc, creditClose_of_locate hc hph] at ht
  refine ⟨fun m rev hplan => ?_, fun hplan => ?_⟩
  · rw [closeLocate_of_plan (b := a.counted h) hph hplan] at ht
    refine ⟨fun hn => ?_, fun hn => ?_⟩
    · rw [if_pos (show m ≤ (a.counted h).passed from hn)] at ht
      rw [ht]
      exact completes_of (b := a.counted h) hafter.toEndKept hz hp hread rfl rfl .done
    · rw [if_neg (show ¬ m ≤ (a.counted h).passed from Nat.not_le.mpr hn)] at ht
      rw [ht]
      exact goesOn_of (b := a.counted h) hafter hz rfl
  · rw [closeLocate_of_search (b := a.counted h) hph hplan] at ht
    refine ⟨fun hord hk u hsel hw hm => ?_, fun hno => ?_⟩
    · rw [if_pos ⟨hord, hk⟩] at ht
      rw [ht]
      exact enterTurn_enters hz hafter hsel hw hm (a.counted h)
    · rw [if_neg fun hx => hno.elim (fun ho => ho hx.1) fun hk => hx.2 hk] at ht
      refine ⟨fun hend => ?_, fun he hn => ?_⟩
      · rw [if_pos (show (a.counted h).endRisen = true ∨ (a.counted h).cmd.count ≤ (a.counted h).passed from hend)] at ht
        rw [ht]
        exact completes_of (b := a.counted h) hafter.toEndKept hz hp hread rfl rfl .notFound
      · rw [if_neg (show ¬ ((a.counted h).endRisen = true ∨ (a.counted h).cmd.count ≤ (a.counted h).passed) from fun hx =>
          hx.elim (fun e => Bool.false_ne_true (he.symm.trans e)) fun hl => absurd hl (Nat.not_le.mpr hn))] at ht
        rw [ht]
        exact goesOn_of (b := a.counted h) hafter hz rfl

/-- What a close means to a SPACE, SPACE MARKS or LOCATE outside TURN, whatever follows it in the row. -/
theorem closeCounts_of (hz : ClosedOver s z a) (hp : s.hw.resetPending = false) (ha : a.abortMark = false)
    (hph : a.phase ≠ .turnStop ∧ a.phase ≠ .turnRamp ∧ a.phase ≠ .turnPass) (hafter : AfterClose z a next after) {t : State}
    (ht : t = after (applyClose (closeReportOf s o h k) z)) : closeCounts a h k next s t := by
  have e1 (hc : a.cmd.code = .space) := closeCounts_space hz hp ha hafter hc ht
  have e2 (hc : a.cmd.code = .spaceMarks) := closeCounts_marks hz hp ha hafter hc ht
  have e3 (hc : a.cmd.code = .locate) := closeCounts_locate hz hp ha hph hafter hc ht
  simp only [GoesOn, CompletesCount, EntersTurn, Active.counted, Active.seen, Active.withLong] at e1 e2 e3
  unfold closeCounts
  exact ⟨e1, e2, e3⟩

end Counts

end Sys2Proof.Machine
end

section
/-! PROOF. A close to a READ or READ STREAM, and what a close leaves of the reader (R53, R88, R97, R98, R199). -/

namespace Sys2Proof.Machine

/-! ### READ and READ STREAM (R97, R98) -/

section Read
variable {s z : State} {a : Active} {o : OpenRecord} {h : Header} {k : Trailer} {r : CloseReport}

/-- A record the command has not received leaves it its LONG RECORD alone. -/
theorem applyClose_of_unreceived (hz : ClosedOver s z a) (hp : s.hw.resetPending = false) (ha : a.abortMark = false)
    (hc : a.cmd.code = .read ∨ a.cmd.code = .readStream) (hr : r.received = false) :
    applyClose r z = z.setOc (.active (a.withLong r.long)) := by
  obtain ⟨e1, e2⟩ := discardVoid_of_kept (a := a) (r := r) (z := z) (.inl fun hd => Bool.false_ne_true (hr.symm.trans hd.2.1))
  have hcredit : creditClose a r = a.withLong r.long := by
    rw [creditClose_eq]
    rcases hc with hc | hc <;> rw [hc] <;> exact if_neg (by simp [hr])
  rw [applyClose_of_command r hz.oc ((congrArg HostWindow.resetPending hz.hw).trans hp) ha, e1, e2, hcredit]
  rcases hc with hc | hc <;> rw [hc] <;> exact if_neg (by simp [hr])

theorem applyClose_of_received (hz : ClosedOver s z a) (hp : s.hw.resetPending = false) (ha : a.abortMark = false)
    (hc : a.cmd.code = .read ∨ a.cmd.code = .readStream) (hr : r.received = true) :
    applyClose r z = closeReceived (credited a r z) r (spared a r z) := by
  rw [applyClose_of_command r hz.oc ((congrArg HostWindow.resetPending hz.hw).trans hp) ha]
  rcases hc with hc | hc <;> rw [hc] <;> exact if_pos hr

/-- A received record that ends the command: its conditions carried, the receiving flag clear. -/
theorem concludeRead_completes (hz : ClosedOver s z a) (hp : s.hw.resetPending = false) (outcome : CmdOutcome) {acct : ReadAccount}
    (h1 : acct.corrected = z.fr.account.corrected) (h2 : acct.marginal = z.fr.account.marginal) (h3 : acct.skew = z.fr.account.skew)
    (hr : r = closeReportOf s o h k) :
    CompletesClose a o h k outcome z.fr.account s (concludeRead (credited a r z) r outcome ((spared a r z).withAccount acct)) ∧
      (concludeRead (credited a r z) r outcome ((spared a r z).withAccount acct)).fr.account.receiving = false := by
  obtain ⟨-, -, hhw, -⟩ := credited_same a r z
  have hpend : ((spared a r z).withAccount { acct with receiving := false }).hw.resetPending = false :=
    (congrArg HostWindow.resetPending (hhw.trans hz.hw)).trans hp
  refine ⟨conclude_completes hz hp outcome (acct := { acct with receiving := false }) h1 h2 h3 hr rfl, ?_⟩
  obtain ⟨-, -, -, -, hfr, -⟩ := conclude_finish_blocks
    { credited a r z with qualifiers := withoutOwnName outcome (recordQualifiers r (credited a r z).qualifiers) } outcome 16
    ((spared a r z).withAccount { acct with receiving := false }) hpend
  exact congrArg (fun f => f.account.receiving) hfr

theorem closeReceived_of_kept (b : Active) (w : State) (hk : k ≠ .void) :
    closeReceived b (closeReportOf s o h k) w =
      concludeRead b (closeReportOf s o h k)
        (if k = .none then .unsealed else if s.badRecord h then .dataCheck else if o.overrun then .overrun
          else if o.lengthExcess then .lengthExcess else if h.kind = .mark then .mark else .done) w := if_neg hk

theorem closeReceived_of_voidStream {b : Active} (w : State) (hk : k = .void) (hc : b.cmd.code = .readStream) :
    closeReceived b (closeReportOf s o h k) w = concludeRead b (closeReportOf s o h k) .voidRead w := (if_pos hk).trans (if_pos hc)

/-- A void the READ has received: skipped, or the eighth, which ends it (R98). -/
theorem closeReceived_of_voidRead {b : Active} (w : State) (hk : k = .void) (hc : b.cmd.code = .read) :
    closeReceived b (closeReportOf s o h k) w =
      if w.fr.account.voids + 1 < 8 then
        (w.withAccount { w.fr.account with voids := w.fr.account.voids + 1 }).setOc
          (.active { b with qualifiers := recordQualifiers (closeReportOf s o h k) b.qualifiers })
      else
        concludeRead b (closeReportOf s o h k) .voidLimit (w.withAccount { w.fr.account with voids := w.fr.account.voids + 1 }) :=
  (if_pos hk).trans (if_neg (by rw [hc]; nofun))

end Read

/-! ### The courses of a close, and the reader -/

section Reader
variable {s z x y : State} {a b : Active} {r : CloseReport}

/-- A close ends the command in FINISH, lets it go on, or is the target of a search. -/
theorem applyClose_cases (r : CloseReport) (hz : ClosedOver s z a) (hp : s.hw.resetPending = false) :
    (∃ b o acct, applyClose r z = conclude b o (.finish 16) ((spared a r z).withAccount acct)) ∨
      (∃ b acct, applyClose r z = ((spared a r z).withAccount acct).setOc (.active b)) ∨
      (a.cmd.code = .locate ∧ ∃ b, applyClose r z = enterTurn b z) := by
  have hpz := (congrArg HostWindow.resetPending hz.hw).trans hp
  cases ha : a.abortMark with
  | true =>
    rw [applyClose_aborted r hz.oc hpz ha]
    cases r.received
    · exact .inl ⟨_, _, (spared a r z).fr.account, rfl⟩
    · exact .inl ⟨_, _, { (spared a r z).fr.account with receiving := false }, rfl⟩
  | false =>
    have kept (hc : a.cmd.code ≠ .read) : spared a r z = z := (discardVoid_of_kept (.inl fun hd => hc hd.1)).2
    rw [applyClose_of_command r hz.oc hpz ha]
    have received : (∃ b o acct, closeReceived (credited a r z) r (spared a r z) =
          conclude b o (.finish 16) ((spared a r z).withAccount acct)) ∨
        ∃ b acct, closeReceived (credited a r z) r (spared a r z) = ((spared a r z).withAccount acct).setOc (.active b) := by
      unfold closeReceived concludeRead
      dsimp only
      split
      · split
        · exact .inl ⟨_, _, { (spared a r z).fr.account with receiving := false }, rfl⟩
        · split
          · exact .inr ⟨_, { (spared a r z).fr.account with voids := (spared a r z).fr.account.voids + 1 }, rfl⟩
          · exact .inl ⟨_, _,
              { (spared a r z).fr.account with voids := (spared a r z).fr.account.voids + 1, receiving := false }, rfl⟩
      · exact .inl ⟨_, _, { (spared a r z).fr.account with receiving := false }, rfl⟩
    have space : (∃ b o, closeSpace (creditClose a r) r z = conclude b o (.finish 16) z) ∨
        ∃ b, closeSpace (creditClose a r) r z = z.setOc (.active b) := by
      unfold closeSpace
      repeat' split
      all_goals first | exact .inr ⟨_, rfl⟩ | exact .inl ⟨_, _, rfl⟩
    have locate : (∃ b o, closeLocate (creditClose a r) r z = conclude b o (.finish 16) z) ∨
        (∃ b, closeLocate (creditClose a r) r z = z.setOc (.active b)) ∨ ∃ b, closeLocate (creditClose a r) r z = enterTurn b z := by
      unfold closeLocate
      repeat' split
      all_goals first | exact .inr (.inl ⟨_, rfl⟩) | exact .inl ⟨_, _, rfl⟩ | exact .inr (.inr ⟨_, rfl⟩)
    cases hc : a.cmd.code
    case read | readStream =>
      dsimp only
      split
      · exact received.imp_right .inl
      · exact .inr (.inl ⟨_, (spared a r z).fr.account, rfl⟩)
    all_goals rw [kept (by rw [hc]; nofun)]
    case space | spaceMarks =>
      rcases space with ⟨b, o, e⟩ | ⟨b, e⟩
      · exact .inl ⟨b, o, z.fr.account, e⟩
      · exact .inr (.inl ⟨b, z.fr.account, e⟩)
    case locate =>
      rcases locate with ⟨b, o, e⟩ | ⟨b, e⟩ | ⟨b, e⟩
      · exact .inl ⟨b, o, z.fr.account, e⟩
      · exact .inr (.inl ⟨b, z.fr.account, e⟩)
      · exact .inr (.inr ⟨rfl, b, e⟩)
    all_goals exact .inr (.inl ⟨_, z.fr.account, rfl⟩)

/-- The run that goes on is no longer the command's once its completion is posted (R87). -/
def Run.released (r : Run) : Run := { r with eligible := false }

/-- What a close leaves of reader and catalogue: no record open, and the run as it was, or no longer eligible. -/
def ReaderAfter (z y : State) : Prop :=
  y.rc = z.rc ∧ y.fr.mode = z.fr.mode ∧ y.fr.record = none ∧ y.fr.runCount = z.fr.runCount ∧
    (y.fr.run = z.fr.run ∨ y.fr.run = z.fr.run.map Run.released)

theorem conclude_reader (hz : ClosedOver s z a) (hp : s.hw.resetPending = false) (b : Active) (o : CmdOutcome) (acct : ReadAccount) :
    (conclude b o (.finish 16) ((spared a r z).withAccount acct)).rc = z.rc ∧
      (conclude b o (.finish 16) ((spared a r z).withAccount acct)).fr = ({ z.fr with account := acct } : FrameReader).afterPosting := by
  obtain ⟨-, hfr, hhw, hrc⟩ := credited_same a r z
  obtain ⟨-, -, -, e1, e2, -⟩ := conclude_finish_blocks b o 16 ((spared a r z).withAccount acct)
    ((congrArg HostWindow.resetPending (hhw.trans hz.hw)).trans hp)
  refine ⟨e1.trans hrc, e2.trans ?_⟩
  exact congrArg (fun f : FrameReader => ({ f with account := acct } : FrameReader).afterPosting) hfr

theorem conclude_readerAfter (hz : ClosedOver s z a) (hp : s.hw.resetPending = false) (b : Active) (o : CmdOutcome)
    (acct : ReadAccount) : ReaderAfter z (conclude b o (.finish 16) ((spared a r z).withAccount acct)) := by
  obtain ⟨e1, e2⟩ := conclude_reader (r := r) hz hp b o acct
  refine ⟨e1, by rw [e2]; rfl, ?_, by rw [e2]; rfl, .inr (by rw [e2]; rfl)⟩
  rw [e2]
  exact congrArg (Option.map fun r : OpenRecord => { r with received := false }) hz.record

theorem setOc_readerAfter (hz : ClosedOver s z a) (b : Active) (acct : ReadAccount) :
    ReaderAfter z (((spared a r z).withAccount acct).setOc (.active b)) := by
  obtain ⟨-, hfr, -, hrc⟩ := credited_same a r z
  exact ⟨hrc, (congrArg FrameReader.mode hfr :), (congrArg FrameReader.record hfr).trans hz.record,
    (congrArg FrameReader.runCount hfr :), .inl (congrArg FrameReader.run hfr :)⟩

/-- A close that does not turn at once leaves the reader in its run. -/
theorem applyClose_readerAfter (r : CloseReport) {u : UnitId} (hz : ClosedOver s z a) (hp : s.hw.resetPending = false)
    (hturn : a.cmd.code = .locate → s.tlc.selected = some u ∧ s.underWay u ∧ (s.link u).lines.moving = true) :
    ReaderAfter z (applyClose r z) := by
  rcases applyClose_cases r hz hp with ⟨b, o, acct, e⟩ | ⟨b, acct, e⟩ | ⟨hc, b, e⟩
  · rw [e]
    exact conclude_readerAfter hz hp b o acct
  · rw [e]
    exact setOc_readerAfter hz b acct
  · obtain ⟨hsel, hw, hm⟩ := hturn hc
    have hlink : ∀ v, z.link v = s.link v := fun v => by simp only [State.link, hz.tlc]
    obtain ⟨-, -, -, -, -, -, h6, -, -, -, h10⟩ := enterTurn_of_moving (z := z) (u := u) (by rw [hz.tlc]; exact hsel)
      (by unfold State.underWay; rw [hlink]; exact hw) (by rw [hlink]; exact hm) b
    rw [e]
    exact ⟨h10, by rw [h6], by rw [h6]; exact hz.record, by rw [h6], .inl (by rw [h6])⟩

/-- With no record open the end of a forward run, or of none, places nothing. -/
theorem breakClose_rc_of_no_record (hrec : z.fr.record = none) (h : z.fr.run = none ∨ z.fr.mode = .parse false) :
    (breakClose z).1.rc = z.rc ∧ (breakClose z).2 = .quiet := by
  have forward {w : State} (hw : w.fr.record = none) (r : Run) : (breakForward r w).1.rc = w.rc ∧ (breakForward r w).2 = .quiet := by
    unfold breakForward
    rw [hw]
    dsimp only
    split <;> exact ⟨rfl, rfl⟩
  unfold breakClose
  rcases h with h | h
  · rw [h]
    exact ⟨rfl, rfl⟩
  · rw [h]
    cases z.fr.run with
    | none => exact ⟨rfl, rfl⟩
    | some r =>
      dsimp only
      split
      · exact forward hrec r
      · exact forward (w := z.setFr { z.fr with run := none }) hrec r

/-- At a stop with no record open the catalogue stands, where the run in progress is forward or none. -/
theorem readerAtStop_of_no_record (m : ReaderMode) (hrec : z.fr.record = none) (h : z.fr.run = none ∨ z.fr.mode = .parse false) :
    (readerAtStop m z).rc = z.rc ∧ (readerAtStop m z).fr.record = none ∧ (readerAtStop m z).fr.run = none := by
  have hhand : (handOpenFrame z).fr.record = none ∧ ((handOpenFrame z).fr.run = none ∨ (handOpenFrame z).fr.mode = .parse false) := by
    rcases handOpenFrame_cases z with e | ⟨x, w, rev, -, hw, hm, -, e⟩
    · rw [e]
      exact ⟨hrec, h⟩
    · rcases h with h | h
      · simp [h] at hw
      · rw [e]
        exact ⟨hrec, .inr h⟩
  obtain ⟨e1, e2⟩ := breakClose_rc_of_no_record hhand.1 hhand.2
  refine ⟨?_, rfl, rfl⟩
  change (breakOpen (noteClose (breakClose (handOpenFrame z)).2 (breakClose (handOpenFrame z)).1)).rc = z.rc
  rw [breakOpen_rc, noteClose_rc, e1, handOpenFrame_rc]

/-- TURN places nothing either: its stop, and the end of the run where that stop is complete at once. -/
theorem enterTurn_placed (b : Active) (hrec : z.fr.record = none) (h : z.fr.run = none ∨ z.fr.mode = .parse false) :
    (enterTurn b z).rc = z.rc ∧ (enterTurn b z).fr.record = none ∧ (z.fr.run = none → (enterTurn b z).fr.run = none) := by
  have hfr : (sendStop (enterPhase b .turnStop none (z.setFr { z.fr with search := none }))).fr = { z.fr with search := none } :=
    sendStop_fr _
  have hrc : (sendStop (enterPhase b .turnStop none (z.setFr { z.fr with search := none }))).rc = z.rc := sendStop_rc _
  unfold enterTurn
  dsimp only
  split
  · exact ⟨hrc, by rw [hfr]; exact hrec, fun hr => by rw [hfr]; exact hr⟩
  · obtain ⟨e1, e2, e3⟩ := readerAtStop_of_no_record (.parse true)
      (z := sendStop (enterPhase b .turnStop none (z.setFr { z.fr with search := none }))) (by rw [hfr]; exact hrec)
      (by rw [hfr]; exact h)
    generalize sendStop (enterPhase b .turnStop none (z.setFr { z.fr with search := none })) = w at *
    have hturn : (turnToReverse w).rc = (readerAtStop (.parse true) w).rc ∧
        (turnToReverse w).fr = (readerAtStop (.parse true) w).fr := by
      unfold turnToReverse
      dsimp only
      split <;> split <;> exact ⟨rfl, rfl⟩
    exact ⟨hturn.1.trans (e1.trans hrc), by rw [hturn.2]; exact e2, fun _ => by rw [hturn.2]; exact e3⟩

/-- A close leaves the catalogue as the record's placing left it, and no record open. -/
theorem applyClose_placed (r : CloseReport) (hz : ClosedOver s z a) (hp : s.hw.resetPending = false)
    (h : z.fr.run = none ∨ z.fr.mode = .parse false) :
    (applyClose r z).rc = z.rc ∧ (applyClose r z).fr.record = none ∧ (z.fr.run = none → (applyClose r z).fr.run = none) := by
  have run {y : State} (hy : ReaderAfter z y) : y.rc = z.rc ∧ y.fr.record = none ∧ (z.fr.run = none → y.fr.run = none) := by
    obtain ⟨h1, -, h3, -, h5⟩ := hy
    exact ⟨h1, h3, fun hr => by rcases h5 with e | e <;> rw [e, hr]; rfl⟩
  rcases applyClose_cases r hz hp with ⟨b, o, acct, e⟩ | ⟨b, acct, e⟩ | ⟨-, b, e⟩ <;> rw [e]
  · exact run (conclude_readerAfter hz hp b o acct)
  · exact run (setOc_readerAfter hz b acct)
  · exact enterTurn_placed b hz.record h

/-! ### The control reset in place of a close (R199, R200) -/

theorem clearedForReset_fr (z : State) : (clearedForReset z).fr = { z.fr.afterPosting with account := .empty } := by
  refine (sendStop_fr (clearCommandSide (describeCommitted z))).trans ?_
  exact congrArg (fun f : FrameReader => { f.afterPosting with account := .empty }) (describeCommitted_blocks z).2.2.2.1

/-- The reset in place of a close: the medium stopping with the reader's run no longer eligible, or at rest with the reader done; and
the catalogue as the record's placing left it. -/
theorem controlResetEffect_closed (hoc : z.oc = .active a) (hrec : z.fr.record = none)
    (h : z.fr.run = none ∨ z.fr.mode = .parse false) (hph : a.phase ≠ .trailerCheck) :
    (controlResetEffect z).rc = z.rc ∧
      (((controlResetEffect z).oc = .stopping ∧
          (controlResetEffect z).fr = { z.fr.afterPosting with account := .empty }) ∨
        ((controlResetEffect z).oc = .idle ∧ (controlResetEffect z).fr.record = none ∧ (controlResetEffect z).fr.run = none)) := by
  have hdesc : describeCommitted z = z := by
    unfold describeCommitted
    rw [hoc]
    exact if_neg fun hx => hph hx.1
  have hfr := clearedForReset_fr z
  have hrc : (clearedForReset z).rc = z.rc :=
    (sendStop_rc (clearCommandSide (describeCommitted z))).trans ((congrArg State.rc hdesc :))
  rw [controlResetEffect_eq]
  rcases enterStopping_cases (clearedForReset z) with ⟨-, e⟩ | ⟨-, e⟩
  · rw [e]
    exact ⟨hrc, .inl ⟨rfl, hfr⟩⟩
  · have hstop : ((clearedForReset z).setOc .stopping |>.setTimer (clearedForReset z).timer.atStop).fr =
        { z.fr.afterPosting with account := .empty } := hfr
    obtain ⟨e1, e2, e3⟩ := readerAtStop_of_no_record .idle
      (z := ((clearedForReset z).setOc .stopping).setTimer (clearedForReset z).timer.atStop)
      (by rw [hstop]; exact congrArg (Option.map fun r : OpenRecord => { r with received := false }) hrec)
      (by rw [hstop]; exact h.imp (fun hr : z.fr.run = none => (congrArg (Option.map Run.released) hr :)) id)
    rw [e]
    exact ⟨e1.trans hrc, .inr ⟨rfl, e2, e3⟩⟩

end Reader

/-! ### What follows a close in a row: the phase, and the run break's opening half -/

section Following
variable {s z x : State} {a : Active}

theorem syncPhase_of_other (h : ∀ b, x.oc = .active b → b.phase ≠ .search ∧ b.phase ≠ .record) : syncPhase x = x := by
  unfold syncPhase
  cases hoc : x.oc with
  | active b =>
    obtain ⟨h1, h2⟩ := h b hoc
    exact (if_neg fun hc => h1 hc.1).trans (if_neg fun hc => h2 hc.1)
  | _ => rfl

/-- With a record open SEARCH becomes RECORD (R45, R53). -/
theorem syncPhase_of_record {b : Active} (hoc : x.oc = .active b) (hr : x.fr.record.isSome = true) :
    syncPhase x = if b.phase = .search then enterPhase b .record none x else x := by
  unfold syncPhase
  rw [hoc]
  simp [hr]

/-- With none open RECORD becomes SEARCH (R45, R53). -/
theorem syncPhase_of_no_record {b : Active} (hoc : x.oc = .active b) (hr : x.fr.record = none) :
    syncPhase x = if b.phase = .record then enterPhase b .search none x else x := by
  unfold syncPhase
  rw [hoc]
  simp [hr]

/-- The change of phase touches the OC and the Phase Timer. -/
theorem syncPhase_same (x : State) : ∃ oc timer, syncPhase x = (x.setOc oc).setTimer timer := by
  unfold syncPhase
  split
  · split
    · exact ⟨_, _, rfl⟩
    · split
      · exact ⟨_, _, rfl⟩
      · exact ⟨x.oc, x.timer, rfl⟩
  · exact ⟨x.oc, x.timer, rfl⟩

theorem syncPhase_fr (x : State) : (syncPhase x).fr = x.fr := by
  obtain ⟨oc, timer, e⟩ := syncPhase_same x
  rw [e]
  rfl

theorem syncPhase_rc (x : State) : (syncPhase x).rc = x.rc := by
  obtain ⟨oc, timer, e⟩ := syncPhase_same x
  rw [e]
  rfl

/-- The phase in which the command goes on with no record open, and the search count there (R17, R48, R53). -/
def GapPhase (z : State) (a : Active) (next : Phase) : Prop :=
  ((a.phase = .record ∨ a.phase = .search) ∧ next = .search ∧ z.fr.search = some 0) ∨
    (a.phase = .ramp ∧ next = .ramp ∧ z.fr.search = none)

theorem syncPhase_endKept : EndKept syncPhase := by
  refine ⟨fun x => ?_, fun x f hx => ?_⟩
  · obtain ⟨oc, timer, e⟩ := syncPhase_same x
    rw [e]
    exact ⟨rfl, rfl, rfl, rfl⟩
  · rw [syncPhase_of_other fun b hb => by simp [hx] at hb]
    exact ⟨rfl, rfl⟩

theorem afterClose_syncPhase {next : Phase} (hrec : z.fr.record = none) (hgap : GapPhase z a next) :
    AfterClose z a next syncPhase := by
  refine ⟨syncPhase_endKept, fun b x hb hx hfr => ?_, fun x b hx hb hs => ?_⟩
  · have hnone : x.fr.record = none := by rw [hfr]; exact hrec
    have hsearch : x.fr.search = z.fr.search := by rw [hfr]
    rw [syncPhase_of_no_record hx hnone]
    rcases hgap with ⟨hp, hn, hs⟩ | ⟨hp, hn, hs⟩
    · rw [hn]
      rcases hp with hp | hp
      · rw [if_pos (hb.trans hp)]
        exact ⟨rfl, fun _ => hsearch.trans hs, nofun⟩
      · rw [if_neg (by rw [hb, hp]; nofun)]
        refine ⟨hx.trans (congrArg Operation.active ?_), fun _ => hsearch.trans hs, nofun⟩
        rw [← hp, ← hb]
    · rw [hn, if_neg (by rw [hb, hp]; nofun)]
      refine ⟨hx.trans (congrArg Operation.active ?_), nofun, fun _ => hsearch.trans hs⟩
      rw [← hp, ← hb]
  · rw [syncPhase_of_other fun c hc => by cases hx.symm.trans hc; simp [hb]]
    exact ⟨rfl, hs⟩

/-- The opening half of a break with its changes of phase (R53, R88). -/
def afterBreak (x : State) : State := syncPhase (breakOpen (syncPhase x))

theorem breakOpen_keeps (x : State) :
    ∃ fr, breakOpen x = x.setFr fr ∧ fr.account = x.fr.account ∧ (x.fr.search = none → fr.search = none) := by
  unfold breakOpen
  split
  · split
    · exact ⟨_, rfl, rfl, fun _ => rfl⟩
    · exact ⟨_, rfl, rfl, id⟩
  · exact ⟨_, rfl, rfl, id⟩

theorem breakOpen_of_no_run (h : x.fr.run = none) : breakOpen x = x := by
  rw [breakOpen_of_nothing (.inl h)]
  exact (congrArg (fun r => x.setFr { x.fr with run := r }) h.symm).trans rfl

theorem afterBreak_keeps (x : State) :
    (afterBreak x).cmp = x.cmp ∧ (afterBreak x).cu = x.cu ∧ (afterBreak x).bu = x.bu ∧ (afterBreak x).tlc = x.tlc ∧
      (afterBreak x).rc = x.rc ∧ (afterBreak x).fr.account = x.fr.account := by
  obtain ⟨oc, timer, e⟩ := syncPhase_same x
  obtain ⟨fr, e', ha, -⟩ := breakOpen_keeps (syncPhase x)
  obtain ⟨oc', timer', e''⟩ := syncPhase_same (breakOpen (syncPhase x))
  have haccount : fr.account = x.fr.account := by rw [ha, syncPhase_fr]
  rw [afterBreak, e'', e', e]
  exact ⟨rfl, rfl, rfl, rfl, rfl, haccount⟩

/-- A FINISH and the modes with no operation stay as they are. -/
theorem afterBreak_of_inactive (h : ∀ b, x.oc ≠ .active b) : afterBreak x = breakOpen x := by
  have h1 : syncPhase x = x := syncPhase_of_other fun b hb => absurd hb (h b)
  have h2 : syncPhase (breakOpen x) = breakOpen x :=
    syncPhase_of_other fun b hb => absurd ((breakOpen_same x).2.2.1.symm.trans hb) (h b)
  rw [afterBreak, h1, h2]

theorem afterBreak_ends (f : Finishing) (hx : x.oc = .finishing f) : (afterBreak x).oc = x.oc ∧ (afterBreak x).timer = x.timer := by
  have hno : ∀ b, x.oc ≠ .active b := fun b hb => by simp [hx] at hb
  rw [afterBreak_of_inactive hno]
  obtain ⟨-, -, h3, h4, -⟩ := breakOpen_same x
  exact ⟨h3, h4⟩

theorem afterBreak_turns {b : Active} (hx : x.oc = .active b) (hb : b.phase = .turnStop) (hs : x.fr.search = none) :
    (afterBreak x).oc = x.oc ∧ (afterBreak x).fr.search = none := by
  have h1 : syncPhase x = x := syncPhase_of_other fun c hc => by cases hx.symm.trans hc; simp [hb]
  obtain ⟨fr, e, -, hs'⟩ := breakOpen_keeps x
  have h2 : syncPhase (breakOpen x) = breakOpen x := syncPhase_of_other fun c hc => by
    rw [e] at hc
    cases hx.symm.trans hc
    simp [hb]
  rw [afterBreak, h1, h2, e]
  exact ⟨rfl, hs' hs⟩

theorem afterBreak_endKept : EndKept afterBreak := by
  refine ⟨fun x => ?_, fun x f hx => afterBreak_ends f hx⟩
  obtain ⟨h1, h2, h3, h4, -⟩ := afterBreak_keeps x
  exact ⟨h1, h2, h3, h4⟩

/-- With the run at an end the break's opening half opens nothing. -/
theorem afterClose_afterBreak {next : Phase} (hrec : z.fr.record = none) (hrun : z.fr.run = none) (hgap : GapPhase z a next) :
    AfterClose z a next afterBreak := by
  have hsync := afterClose_syncPhase hrec hgap
  refine ⟨afterBreak_endKept, fun b x hb hx hfr => ?_, fun x b hx hb hs => afterBreak_turns hx hb hs⟩
  · have e : afterBreak x = syncPhase (syncPhase x) := by
      rw [afterBreak, breakOpen_of_no_run (x := syncPhase x) (by rw [syncPhase_fr, hfr]; exact hrun)]
    obtain ⟨k1, k2, k3⟩ := hsync.goes b x hb hx hfr
    have hnone : (syncPhase x).fr.record = none := by rw [syncPhase_fr, hfr]; exact hrec
    have hidem : syncPhase (syncPhase x) = syncPhase x := by
      rw [syncPhase_of_no_record k1 hnone]
      refine if_neg ?_
      rcases hgap with ⟨-, hn, -⟩ | ⟨-, hn, -⟩ <;> rw [hn] <;> nofun
    rw [e, hidem]
    exact ⟨k1, k2, k3⟩

/-- The record that the opening half of a break opens from a header run (R87, R88). -/
def Run.opened (r : Run) : OpenRecord :=
  { header := some (r.decodeHeader false), lcf := false, trailer := none, received := r.eligible,
    lengthExcess := r.lengthExcess, overrun := r.overrun }

theorem breakOpen_of_header {r : Run} (hr : x.fr.run = some r) (hm : x.fr.mode = .parse false) (hl : 3 ≤ r.length) :
    breakOpen x =
      x.setFr { x.fr with run := none, record := some r.opened, acc := r.xor, closeCount := x.fr.runCount, search := none } := by
  unfold breakOpen
  rw [hr, hm]
  exact if_pos hl

/-- A header run opens its record: a command in RECORD is back in it, one in RAMP stays (R53, log 18). -/
theorem afterClose_header {r : Run} (hrec : z.fr.record = none) (hr : z.fr.run = some r) (hm : z.fr.mode = .parse false)
    (hl : 3 ≤ r.length) (hph : a.phase = .record ∨ a.phase = .ramp) : AfterClose z a a.phase afterBreak := by
  refine ⟨afterBreak_endKept, fun b x hb hx hfr => ?_, fun x b hx hb hs => afterBreak_turns hx hb hs⟩
  · have hnone : x.fr.record = none := by rw [hfr]; exact hrec
    have hsame : { b with phase := a.phase } = b := by rw [← hb]
    have hopen := breakOpen_of_header (x := syncPhase x) (r := r) (by rw [syncPhase_fr, hfr]; exact hr)
      (by rw [syncPhase_fr, hfr]; exact hm) hl
    rcases hph with hph | hph
    · have e1 : syncPhase x = enterPhase b .search none x := by
        rw [syncPhase_of_no_record hx hnone, if_pos (hb.trans hph)]
      rw [e1] at hopen
      have e2 : afterBreak x = enterPhase { b with phase := .search } .record none (breakOpen (enterPhase b .search none x)) := by
        rw [afterBreak, e1, syncPhase_of_record (b := { b with phase := .search }) (by rw [hopen]; rfl) (by rw [hopen]; rfl)]
        exact if_pos rfl
      rw [e2, hopen, hph]
      exact ⟨rfl, nofun, nofun⟩
    · have e1 : syncPhase x = x := by
        rw [syncPhase_of_no_record hx hnone, if_neg (by rw [hb, hph]; nofun)]
      rw [e1] at hopen
      have e2 : afterBreak x = breakOpen x := by
        rw [afterBreak, e1]
        refine syncPhase_of_other fun c hc => ?_
        rw [hopen] at hc
        cases hx.symm.trans hc
        rw [hb, hph]
        exact ⟨nofun, nofun⟩
      rw [e2, hopen, hsame]
      exact ⟨hx, by rw [hph]; nofun, fun _ => rfl⟩

end Following

end Sys2Proof.Machine
end

section
/-! PROOF. The close limit (R16, R53, R88, R89, R93, R197, R199). -/

namespace Sys2Proof.Machine

section Limit
variable {s z : State} {a : Active} {o : OpenRecord} {h : Header} {k : Trailer} {u : UnitId} {rev : Bool}

/-! ### The record that closes -/

theorem placeForward_eq (u : UnitId) (i : RecordInfo) (p : Bool) (s : State) :
    placeForward u i p s = s.setRc (placeForward u i p s).rc := by
  unfold placeForward
  split <;> rfl

theorem placeReverse_eq (u : UnitId) (i : RecordInfo) (s : State) : placeReverse u i s = s.setRc (placeReverse u i s).rc := by
  unfold placeReverse
  split <;> rfl

theorem placeReverse_rc_congr {r : State} (hrc : r.rc = s.rc) (hsel : r.tlc.selected = s.tlc.selected) (u : UnitId) (i : RecordInfo) :
    (placeReverse u i r).rc = (placeReverse u i s).rc := by
  unfold placeReverse State.setNextOrdinal State.setCatalogue State.catalogue State.nextOrdinal
  rw [hsel]
  split <;> simp [hrc]

/-- The state in which a record has closed: it is in the catalogue `rc`, and the parse is back in GAP (R93, R94). -/
def State.recordClosed (s : State) (rc : RecordCatalogue) : State :=
  (s.setRc rc).setFr { s.fr with record := none, closeCount := 0, search := if s.searchRuns then some 0 else none }

theorem closeRecord_forward (hsel : s.tlc.selected = some u) (o : OpenRecord) (h : Header) (k : Trailer) :
    closeRecord o h k false s =
      (s.recordClosed (placeForward u (s.readRecord h k) false s).rc, .closed (closeReportOf s o h k)) := by
  rw [closeRecord_eq, placeClosed_forward hsel, placeForward_eq]
  rfl

theorem closeRecord_reverse (hsel : s.tlc.selected = some u) (o : OpenRecord) (h : Header) (k : Trailer) :
    closeRecord o h k true s =
      (s.recordClosed (placeReverse u (s.readRecord h k) s).rc, .closed (closeReportOf s o h k)) := by
  rw [closeRecord_eq, placeClosed_reverse hsel, placeReverse_eq]
  rfl

theorem closedOver_recordClosed (hoc : s.oc = .active a) (rc : RecordCatalogue) : ClosedOver s (s.recordClosed rc) a :=
  ⟨rfl, rfl, hoc, rfl, rfl, rfl, rfl⟩

/-- The search count is set going in SEARCH, RECORD and the reverse pass of TURN alone (R17, R48). -/
theorem searchRuns_of (hoc : s.oc = .active a) :
    s.searchRuns = (decide (a.phase = .search) || decide (a.phase = .record) || decide (a.phase = .turnPass)) := by
  unfold State.searchRuns
  rw [hoc]
  dsimp only
  cases a.phase <;> rfl

theorem searchRuns_of_inactive (h : ∀ b, s.oc ≠ .active b) : s.searchRuns = false := by
  unfold State.searchRuns
  cases hoc : s.oc with
  | active b => exact absurd hoc (h b)
  | _ => rfl

theorem inForce_of (hoc : s.oc = .active a) : s.inForce = true := by simp [State.inForce, State.active, hoc]

theorem inForce_of_inactive (h : ∀ b, s.oc ≠ .active b) : s.inForce = false := by
  unfold State.inForce State.active
  cases hoc : s.oc with
  | active b => exact absurd hoc (h b)
  | _ => rfl

theorem gapPhase_recordClosed (hoc : s.oc = .active a) (rc : RecordCatalogue)
    (hp : a.phase = .record ∨ a.phase = .search ∨ a.phase = .ramp) :
    GapPhase (s.recordClosed rc) a (if a.phase = .ramp then .ramp else .search) := by
  have hsearch : (s.recordClosed rc).fr.search = if s.searchRuns then some 0 else none := rfl
  rcases hp with hp | hp | hp
  · exact .inl ⟨.inl hp, if_neg (by rw [hp]; nofun), by rw [hsearch, searchRuns_of hoc, hp]; rfl⟩
  · exact .inl ⟨.inr hp, if_neg (by rw [hp]; nofun), by rw [hsearch, searchRuns_of hoc, hp]; rfl⟩
  · exact .inr ⟨hp, if_pos hp, by rw [hsearch, searchRuns_of hoc, hp]; rfl⟩

/-! ### When the limit acts (R16, log 37, log 44) -/

theorem closeLimitActs_of (hm : s.fr.mode = .parse rev) (hc : 96 ≤ s.fr.closeCount)
    (hrun : ∀ r, s.fr.run = some r → r.length < 3 ∨ (s.fr.closeCount = 96 ∧ 2 ≤ s.fr.runCount)) : s.closeLimitActs = true := by
  have hlimit : decide (Config.closeLimit ≤ s.fr.closeCount) = true := decide_eq_true hc
  unfold State.closeLimitActs
  rw [hlimit, Bool.true_and]
  cases hr : s.fr.run with
  | none => simp [State.headerRunOpen, hr]
  | some r =>
    rcases hrun r hr with hl | ⟨h96, h2⟩
    · have hshort : s.headerRunOpen = false := by
        simp only [State.headerRunOpen, hr, decide_eq_false_iff_not]
        omega
      simp [hshort]
    · have hdue : s.runBreakDue = true := by
        have : decide (Config.runBreakTicks ≤ s.fr.runCount) = true := decide_eq_true h2
        simp [State.runBreakDue, hr, hm, this]
      have : decide (s.fr.closeCount = Config.closeLimit) = true := decide_eq_true h96
      simp [hdue, this]

theorem closeLimitActs_of_header {r : Run} (hr : s.fr.run = some r) (hl : 3 ≤ r.length)
    (h : 96 < s.fr.closeCount ∨ s.fr.runCount < 2) : s.closeLimitActs = false := by
  have hopen : s.headerRunOpen = true := by simp [State.headerRunOpen, hr, hl]
  have hno : (decide (s.fr.closeCount = Config.closeLimit) && s.runBreakDue) = false := by
    rcases h with h | h
    · have : decide (s.fr.closeCount = Config.closeLimit) = false := decide_eq_false (Nat.ne_of_gt h)
      simp [this]
    · have : decide (Config.runBreakTicks ≤ s.fr.runCount) = false := decide_eq_false (Nat.not_le.mpr h)
      simp [State.runBreakDue, this]
  simp [State.closeLimitActs, hopen, hno]

theorem takeCloseLimit_forward (hsel : s.tlc.selected = some u) (hr : s.fr.record = some o) (hm : s.fr.mode = .parse false)
    (hh : o.header = some h) (hacts : s.closeLimitActs = true) :
    takeCloseLimit s =
      syncPhase (applyClose (closeReportOf s o h .none) (s.recordClosed (placeForward u (s.readRecord h .none) false s).rc)) := by
  unfold takeCloseLimit
  rw [hr, hm]
  dsimp only
  rw [if_pos hacts, hh]
  dsimp only
  rw [closeRecord_forward hsel]
  rfl

theorem takeCloseLimit_reverse (hr : s.fr.record = some o) (hm : s.fr.mode = .parse true) (hacts : s.closeLimitActs = true) :
    takeCloseLimit s = syncPhase (applyLoss (s.setFr (s.fr.loseRecord s.inForce s.searchRuns))) := by
  unfold takeCloseLimit
  rw [hr, hm]
  dsimp only
  rw [if_pos hacts]

theorem takeCloseLimit_of_not_acting (hacts : s.closeLimitActs = false) : takeCloseLimit s = s := by
  unfold takeCloseLimit
  cases s.fr.record with
  | none => rfl
  | some o =>
    cases s.fr.mode with
    | parse rev => exact if_neg (by simp [hacts])
    | _ => rfl

/-! ### The reset and the abort at a close -/

theorem controlResetEffect_oc (s : State) : (controlResetEffect s).oc = .stopping ∨ (controlResetEffect s).oc = .idle := by
  rw [controlResetEffect_eq]
  rcases enterStopping_cases (clearedForReset s) with ⟨-, e⟩ | ⟨-, e⟩ <;> rw [e]
  · exact .inl rfl
  · exact .inr rfl

theorem syncPhase_controlResetEffect (s : State) : syncPhase (controlResetEffect s) = controlResetEffect s :=
  syncPhase_of_other fun b hb => by rcases controlResetEffect_oc s with e | e <;> simp [e] at hb

theorem controlResetEffect_record (hrec : s.fr.record = none) : (controlResetEffect s).fr.record = none := by
  rw [controlResetEffect_eq]
  rcases enterStopping_cases (clearedForReset s) with ⟨-, e⟩ | ⟨-, e⟩ <;> rw [e]
  · exact (congrArg FrameReader.record (clearedForReset_fr s)).trans
      (congrArg (Option.map fun r : OpenRecord => { r with received := false }) hrec :)
  · rfl

theorem applyLoss_pending (hoc : z.oc = .active a) (hp : z.hw.resetPending = true) : applyLoss z = controlResetEffect z := by
  unfold applyLoss
  rw [hoc]
  exact if_pos hp

theorem applyLoss_aborted (hoc : z.oc = .active a) (hp : z.hw.resetPending = false) (ha : a.abortMark = true) :
    applyLoss z = conclude a .aborted (.finish 16) z := by
  unfold applyLoss
  rw [hoc]
  exact (if_neg (by simp [hp])).trans (if_pos ha)

theorem applyLoss_of_command (hoc : z.oc = .active a) (hp : z.hw.resetPending = false) (ha : a.abortMark = false) :
    applyLoss z = z := by
  unfold applyLoss
  rw [hoc]
  exact (if_neg (by simp [hp])).trans (if_neg (by simp [ha]))

theorem applyLoss_of_inactive (h : ∀ b, z.oc ≠ .active b) : applyLoss z = z := by
  unfold applyLoss
  cases hoc : z.oc with
  | active b => exact absurd hoc (h b)
  | _ => rfl

theorem applyClose_of_inactive (r : CloseReport) (h : ∀ b, z.oc ≠ .active b) : applyClose r z = z := by
  unfold applyClose
  cases hoc : z.oc with
  | active b => exact absurd hoc (h b)
  | _ => rfl

/-- A close under an abort mark ends ABORTED with the record's conditions. -/
theorem applyClose_aborted_completes (hz : ClosedOver s z a) (hp : s.hw.resetPending = false) (ha : a.abortMark = true) :
    CompletesClose a o h k .aborted z.fr.account s (applyClose (closeReportOf s o h k) z) ∧
      ∃ b acct, applyClose (closeReportOf s o h k) z =
        conclude b .aborted (.finish 16) ((spared a (closeReportOf s o h k) z).withAccount acct) := by
  have e := applyClose_aborted (closeReportOf s o h k) hz.oc ((congrArg HostWindow.resetPending hz.hw).trans hp) ha
  obtain ⟨-, hfr, -⟩ := credited_same a (closeReportOf s o h k) z
  cases hg : (closeReportOf s o h k).received with
  | false =>
    rw [hg] at e
    have e' := e.trans (congrArg (conclude _ _ _) (withAccount_self (spared a (closeReportOf s o h k) z)).symm)
    refine ⟨?_, _, _, e'⟩
    rw [e', hfr]
    exact conclude_completes hz hp .aborted rfl rfl rfl rfl rfl
  | true =>
    rw [hg] at e
    have e' : applyClose (closeReportOf s o h k) z = conclude _ .aborted (.finish 16)
        ((spared a (closeReportOf s o h k) z).withAccount
          { (spared a (closeReportOf s o h k) z).fr.account with receiving := false }) := e
    refine ⟨?_, _, _, e'⟩
    rw [e', hfr]
    exact conclude_completes hz hp .aborted (acct := { z.fr.account with receiving := false }) rfl rfl rfl rfl rfl

theorem not_active_of_finishing {f : Finishing} (hoc : s.oc = .finishing f) (b : Active) : s.oc ≠ .active b := by simp [hoc]

/-- With no operation active a close is the catalogue's alone, and a loss nothing more. -/
theorem close_of_inactive (hno : ∀ b, s.oc ≠ .active b) (r : CloseReport) (rc : RecordCatalogue) :
    applyClose r (s.recordClosed rc) = s.recordClosed rc ∧ syncPhase (s.recordClosed rc) = s.recordClosed rc :=
  ⟨applyClose_of_inactive r hno, syncPhase_of_other fun b hb => absurd hb (hno b)⟩

theorem loss_of_inactive (hno : ∀ b, s.oc ≠ .active b) (fr : FrameReader) : syncPhase (applyLoss (s.setFr fr)) = s.setFr fr := by
  rw [applyLoss_of_inactive (z := s.setFr fr) hno]
  exact syncPhase_of_other fun b hb => absurd hb (hno b)

/-- The command that goes on over a record it has not received. -/
theorem goesOn_unreceived {next : Phase} {after : State → State} (hz : ClosedOver s z a) (hp : s.hw.resetPending = false)
    (ha : a.abortMark = false) (hc : a.cmd.code = .read ∨ a.cmd.code = .readStream) (hg : o.received = false)
    (hafter : AfterClose z a next after) :
    applyClose (closeReportOf s o h k) z = z.setOc (.active (a.withLong h.long)) ∧
      GoesOn (a.withLong h.long) next s (after (applyClose (closeReportOf s o h k) z)) := by
  have e := applyClose_of_unreceived (r := closeReportOf s o h k) hz hp ha hc hg
  refine ⟨e, ?_⟩
  rw [e]
  exact goesOn_of (b := a.withLong h.long) hafter hz rfl

/-! ### The outcome of a received record (R97, R98) -/

/-- A READ or READ STREAM with the record it received UNSEALED. -/
theorem applyClose_unsealed (hz : ClosedOver s z a) (hp : s.hw.resetPending = false) (ha : a.abortMark = false)
    (hc : a.cmd.code = .read ∨ a.cmd.code = .readStream) (hg : o.received = true) :
    applyClose (closeReportOf s o h .none) z =
      concludeRead (credited a (closeReportOf s o h .none) z) (closeReportOf s o h .none) .unsealed
        (spared a (closeReportOf s o h .none) z) :=
  (applyClose_of_received hz hp ha hc hg).trans (closeReceived_of_kept _ _ (by decide))

theorem concludeRead_received (hz : ClosedOver s z a) (hp : s.hw.resetPending = false) (outcome : CmdOutcome) :
    CompletesClose a o h k outcome z.fr.account s
        (concludeRead (credited a (closeReportOf s o h k) z) (closeReportOf s o h k) outcome (spared a (closeReportOf s o h k) z)) ∧
      (concludeRead (credited a (closeReportOf s o h k) z) (closeReportOf s o h k) outcome
        (spared a (closeReportOf s o h k) z)).fr.account.receiving = false := by
  obtain ⟨-, hfr, -⟩ := credited_same a (closeReportOf s o h k) z
  have hself : spared a (closeReportOf s o h k) z = (spared a (closeReportOf s o h k) z).withAccount z.fr.account := by
    rw [← hfr]
    rfl
  have hends := concludeRead_completes (r := closeReportOf s o h k) hz hp outcome (acct := z.fr.account) rfl rfl rfl rfl
  rw [← hself] at hends
  exact hends

end Limit

/-- Settles O51: forward the record closes unsealed and its close is applied, in reverse it is lost; in HEADER RUN nothing happens. -/
theorem closeLimitClosesUnsealed : Obligations.CloseLimitClosesUnsealed := by
  intro o u s hund hsel hr hc placed closes receives completes
  have row : exec .closeLimit s = .next (takeCloseLimit s) := exec_of_event hund rfl
  refine ⟨fun hrun => ⟨fun h hm hh => ?forward, fun hm => ?reverse⟩, fun r hr' hl hlim => ?header⟩
  case header => rw [row, takeCloseLimit_of_not_acting (closeLimitActs_of_header hr' hl hlim)]
  case forward =>
    rw [takeCloseLimit_forward hsel hr hm hh (closeLimitActs_of hm hc hrun)] at row
    have toCompletes {a : Active} {outcome : CmdOutcome} {t : State} (hx : CompletesClose a o h .none outcome s.fr.account s t) :
        completes a h outcome t := by
      obtain ⟨h1, -, -, h4⟩ := hx
      refine ⟨h1, fun c hcmp => ⟨(h4 c hcmp).1, fun hrec => ?_⟩⟩
      obtain ⟨-, k2, k3, k4, k5, -⟩ := (h4 c hcmp).2 hrec
      exact ⟨k2 (by simp), k3, k4, k5⟩
    refine ⟨fun f hoc => ?finishing, fun a hoc hp hpend => ?reset, fun a hoc hp hpend ha => ?abort,
      fun a hoc hp hpend ha => ?command⟩
    case finishing =>
      have hno := not_active_of_finishing hoc
      obtain ⟨e1, e2⟩ := close_of_inactive hno (closeReportOf s o h .none) (placed h)
      rewrite [row, e1, e2, State.recordClosed, searchRuns_of_inactive hno]
      rfl
    case reset =>
      have hz := closedOver_recordClosed hoc (placed h)
      rw [applyClose_pending _ hz.oc hpend, syncPhase_controlResetEffect] at row
      refine ⟨_, row, controlResetEffect_taken rfl rfl rfl (.inl rfl), controlResetEffect_record rfl, fun hnone => ?_⟩
      exact (controlResetEffect_closed hz.oc rfl (.inl hnone) (by rw [hp]; decide)).1
    case abort =>
      have hz := closedOver_recordClosed hoc (placed h)
      obtain ⟨h1, b, acct, e⟩ := applyClose_aborted_completes (o := o) (h := h) (k := .none) hz hpend ha
      obtain ⟨k1, -, k3, -⟩ := conclude_readerAfter (r := closeReportOf s o h .none) hz hpend b .aborted acct
      rw [← e] at k1 k3
      exact ⟨_, row, by rw [syncPhase_fr]; exact k3, by rw [syncPhase_rc]; exact k1, toCompletes (h1.afterwards syncPhase_endKept)⟩
    case command =>
      intro gap
      have hz := closedOver_recordClosed hoc (placed h)
      have hafter := afterClose_syncPhase rfl
        (gapPhase_recordClosed hoc (placed h) (hp.elim (fun e => .inl e) fun e => .inr (.inr e)))
      obtain ⟨k1, k2, -⟩ := applyClose_placed (closeReportOf s o h .none) hz hpend (.inr hm)
      have reaches {more : State → Prop}
          (hmore : more (syncPhase (applyClose (closeReportOf s o h .none) (s.recordClosed (placed h))))) : closes h more :=
        ⟨_, row, by rw [syncPhase_fr]; exact k2, by rw [syncPhase_rc]; exact k1, hmore⟩
      refine ⟨reaches (closeCounts_of hz hpend ha (by rcases hp with e | e <;> rw [e] <;> decide) hafter rfl), fun hrec hg => ?_,
        fun hrec hg => ?_⟩
      · obtain ⟨e, h1, h2, h3, h4, h5, h6⟩ := goesOn_unreceived (o := o) (h := h) (k := .none) hz hpend ha hrec hg hafter
        refine reaches ⟨h1, ?_, ?_, h4, h5, h6⟩
        · by_cases hramp : a.phase = .ramp
          · rw [if_pos hramp]
            exact h3 (if_pos hramp)
          · rw [if_neg hramp]
            exact h2 (if_neg hramp)
        · rw [syncPhase_fr, e]
          rfl
      · obtain ⟨h1, h2⟩ := concludeRead_received (o := o) (h := h) (k := .none) hz hpend .unsealed
        rw [← applyClose_unsealed hz hpend ha hrec hg] at h1 h2
        exact reaches ⟨toCompletes (h1.afterwards hafter.toEndKept), by rw [syncPhase_fr]; exact h2⟩
  case reverse =>
    rw [takeCloseLimit_reverse hr hm (closeLimitActs_of hm hc hrun)] at row
    refine ⟨fun f hoc => ?finishing, fun a hoc hp => ⟨fun hpend => ?reset, fun hpend ha => ?abort, fun hpend ha => ?command⟩⟩
    case finishing =>
      have hno := not_active_of_finishing hoc
      rewrite [row, inForce_of_inactive hno, searchRuns_of_inactive hno, loss_of_inactive hno]
      rfl
    all_goals
      have hlost : s.fr.loseRecord s.inForce s.searchRuns =
          { s.fr with
            record := none, closeCount := 0, search := if a.phase = .ramp ∨ a.phase = .turnRamp then none else some 0
            account := { s.fr.account with fragments := true } } := by
        rw [inForce_of hoc, searchRuns_of hoc]
        rcases hp with e | e | e | e <;> rw [e] <;> rfl
      obtain ⟨fr, hfr⟩ : ∃ fr, fr = s.fr.loseRecord s.inForce s.searchRuns := ⟨_, rfl⟩
      rw [← hfr] at row hlost
      have hnone : fr.record = none := by rw [hlost]
      have hz : (s.setFr fr).oc = .active a := hoc
    case reset =>
      rw [applyLoss_pending hz hpend, syncPhase_controlResetEffect] at row
      exact ⟨_, row, controlResetEffect_taken rfl rfl rfl (.inl rfl), controlResetEffect_record hnone⟩
    case abort =>
      rw [applyLoss_aborted hz hpend ha] at row
      have hfinish := conclude_finish (s := s) (a := a) (b := a) (o := .aborted) (t := s.setFr fr) 16 rfl rfl rfl rfl hpend
      obtain ⟨-, -, -, k4, k5, -⟩ := conclude_finish_blocks a .aborted 16 (s.setFr fr) hpend
      rw [syncPhase_of_other fun b hb => absurd hb (not_active_of_finishing hfinish.2.1 b)] at row
      exact ⟨_, row, hfinish, by rw [k5]; simp [FrameReader.afterPosting, State.setFr, hnone], k4⟩
    case command =>
      rw [applyLoss_of_command hz hpend ha] at row
      have hkept := syncPhase_of_no_record hz hnone
      rw [hlost] at row hkept
      exact ⟨fun hrecord => row.trans (congrArg Host.Outcome.next (hkept.trans (if_pos hrecord))),
        fun hrecord => row.trans (congrArg Host.Outcome.next (hkept.trans (if_neg hrecord)))⟩

end Sys2Proof.Machine
end

section
/-! PROOF. The header and the trailer of a run, and the courses of a run break (R14, R15, R53, R88 to R91). -/

namespace Sys2Proof.Machine

/-! ### The header and the trailer of a run (R90, R91) -/

section Run
variable {r : Run} {reverse : Bool} {h0 h1 h2 x y : ReadFrame}

theorem ReadFrame.readable_iff_ne (f : ReadFrame) : f.readable = true ↔ f.status ≠ .unreadable := by simp [ReadFrame.readable]

/-- The header frames are readable and the unassigned bits of H0 are zero. -/
def headerValid (h0 h1 h2 : ReadFrame) : Bool :=
  h0.readable && h1.readable && h2.readable && decide ((dataLanes h0.value).extractLsb' 4 4 = 0#4)

theorem headerValid_iff (h0 h1 h2 : ReadFrame) :
    headerValid h0 h1 h2 = true ↔
      h0.status ≠ .unreadable ∧ h1.status ≠ .unreadable ∧ h2.status ≠ .unreadable ∧ h0.value.extractLsb' 4 4 = 0#4 := by
  have e : (dataLanes h0.value).extractLsb' 4 4 = h0.value.extractLsb' 4 4 := by
    unfold dataLanes
    ext i hi
    simp
  simp only [headerValid, Bool.and_eq_true, ReadFrame.readable_iff_ne, decide_eq_true_iff, e, and_assoc]

theorem decodeHeader_eq (h : r.headerFrames reverse = [h0, h1, h2]) :
    r.decodeHeader reverse =
      { ident :=
          if headerValid h0 h1 h2 then
            some { ordinal := dataLanes h1.value ++ dataLanes h2.value, copy := (dataLanes h0.value).extractLsb' 1 3 }
          else none
        kind := if headerValid h0 h1 h2 && (dataLanes h0.value).getLsbD 0 then .mark else .data
        length := if decide (4096 < r.length - 3) then 4096 else r.length - 3
        long := decide (4096 < r.length - 3)
        bad := !headerValid h0 h1 h2
        malformed :=
          (match (if headerValid h0 h1 h2 && (dataLanes h0.value).getLsbD 0 then .mark else .data : Kind) with
            | .mark => decide (r.length - 3 ≠ 0)
            | .data => decide (r.length - 3 = 0))
        unreadable := decide (0 < r.tallies.unreadable)
        soft := decide (0 < r.tallies.corrected) || decide (0 < r.tallies.marginal) } := by
  unfold Run.decodeHeader
  rewrite [h]
  rfl

theorem decodeHeader_counts (h : r.headerFrames reverse = [h0, h1, h2]) :
    (r.decodeHeader reverse).length = min (r.length - 3) 4096 ∧
      (r.decodeHeader reverse).long = decide (4096 < r.length - 3) ∧
      (r.decodeHeader reverse).malformed =
        (if (r.decodeHeader reverse).kind = .mark then decide (0 < r.length - 3) else decide (r.length - 3 = 0)) ∧
      (r.decodeHeader reverse).unreadable = decide (0 < r.tallies.unreadable) ∧
      (r.decodeHeader reverse).soft = (decide (0 < r.tallies.corrected) || decide (0 < r.tallies.marginal)) := by
  rw [decodeHeader_eq h]
  refine ⟨?_, rfl, ?_, rfl, rfl⟩
  · by_cases hl : 4096 < r.length - 3
    · simp [hl]; omega
    · simp [hl]; omega
  · cases headerValid h0 h1 h2 && (dataLanes h0.value).getLsbD 0
    · simp
    · simp [Nat.sub_eq_zero_iff_le]

theorem decodeHeader_valid (h : r.headerFrames reverse = [h0, h1, h2]) (hv : headerValid h0 h1 h2 = true) :
    (r.decodeHeader reverse).ident =
        some { ordinal := h1.value.extractLsb' 0 8 ++ h2.value.extractLsb' 0 8, copy := h0.value.extractLsb' 1 3 } ∧
      (r.decodeHeader reverse).kind = (if h0.value.getLsbD 0 then .mark else .data) ∧ (r.decodeHeader reverse).bad = false := by
  have hcopy : (dataLanes h0.value).extractLsb' 1 3 = h0.value.extractLsb' 1 3 := by
    unfold dataLanes
    ext i hi
    simp
  have hkind : (dataLanes h0.value).getLsbD 0 = h0.value.getLsbD 0 := by simp [dataLanes]
  rw [decodeHeader_eq h, hv, hcopy, hkind]
  exact ⟨rfl, rfl, rfl⟩

theorem decodeHeader_bad (h : r.headerFrames reverse = [h0, h1, h2]) (hv : headerValid h0 h1 h2 = false) :
    (r.decodeHeader reverse).ident = none ∧ (r.decodeHeader reverse).kind = .data ∧ (r.decodeHeader reverse).bad = true := by
  rw [decodeHeader_eq h, hv]
  exact ⟨rfl, rfl, rfl⟩

/-- The trailer of two frames in the order of the medium: their readings and their words. -/
theorem trailerPattern_eq (h : r.first = if reverse then [y, x] else [x, y]) :
    r.trailerPattern reverse =
      if x.readable && y.readable then
        if x.value = 0x33C#10 ∧ y.value = 0x3C3#10 then some .commit
        else if x.value = 0x366#10 ∧ y.value = 0x399#10 then some .void
        else none
      else none := by
  have e1 : frameOf (trailerFirst .commit) = 0x33C#10 := by decide
  have e2 : frameOf (trailerSecond .commit) = 0x3C3#10 := by decide
  have e3 : frameOf (trailerFirst .void) = 0x366#10 := by decide
  have e4 : frameOf (trailerSecond .void) = 0x399#10 := by decide
  unfold Run.trailerPattern
  cases reverse with
  | false =>
    rw [h]
    simp [e1, e2, e3, e4]
  | true =>
    rw [h]
    simp [e1, e2, e3, e4, Bool.and_comm]

theorem trailerPattern_iff (h : r.first = if reverse then [y, x] else [x, y]) :
    (r.trailerPattern reverse = some .commit ↔
        (x.status ≠ .unreadable ∧ y.status ≠ .unreadable) ∧ x.value = 0x33C#10 ∧ y.value = 0x3C3#10) ∧
      (r.trailerPattern reverse = some .void ↔
        (x.status ≠ .unreadable ∧ y.status ≠ .unreadable) ∧ x.value = 0x366#10 ∧ y.value = 0x399#10) := by
  have hread : (x.status ≠ .unreadable ∧ y.status ≠ .unreadable) ↔ (x.readable && y.readable) = true := by
    simp [ReadFrame.readable_iff_ne]
  rw [trailerPattern_eq h, hread]
  cases x.readable && y.readable with
  | false => simp
  | true =>
    by_cases hc : x.value = 0x33C#10 ∧ y.value = 0x3C3#10
    · obtain ⟨hx, hy⟩ := hc
      simp [hx, hy]
    · by_cases hv : x.value = 0x366#10 ∧ y.value = 0x399#10
      · obtain ⟨hx, hy⟩ := hv
        simp [hx, hy]
      · simp [hc, hv]

end Run

/-! ### The account at a break (R99) -/

/-- The account of the reader with these counts, which join it in check manner. -/
def FrameReader.tallied (fr : FrameReader) (corrected marginal skew : Nat) : ReadAccount :=
  if fr.manner = .check then
    { fr.account with
      corrected := min (fr.account.corrected + corrected) 255
      marginal := min (fr.account.marginal + marginal) 255, skew := min (fr.account.skew + skew) 15 }
  else fr.account

theorem tallied_voids (fr : FrameReader) (corrected marginal skew : Nat) :
    (fr.tallied corrected marginal skew).voids = fr.account.voids := by
  unfold FrameReader.tallied
  split <;> rfl

theorem addTallies_inForce (fr : FrameReader) (t : Tallies) :
    fr.addTallies t true = { fr with account := fr.tallied t.corrected t.marginal t.skewed } := by
  unfold FrameReader.addTallies FrameReader.tallied
  by_cases hm : fr.manner = .check
  · rw [if_pos (by simp [hm]), if_pos hm]
    rfl
  · rw [if_neg (by simp [hm]), if_neg hm]

theorem addTallies_of_pass (fr : FrameReader) (t : Tallies) (b : Bool) (hm : fr.manner = .pass) : fr.addTallies t b = fr := by
  simp [FrameReader.addTallies, hm]

/-! ### The courses of a run break -/

section Break
variable {s x z : State} {a b : Active} {r : Run} {reverse : Bool} {c : CloseReport} {fr : FrameReader}

/-- A run break that is due, with no frame open (R14). -/
theorem takeRunBreak_eq (hm : s.fr.mode = .parse reverse) (hr : s.fr.run = some r) (hc : 2 ≤ s.fr.runCount) (hf : s.fr.frame = none) :
    takeRunBreak s = afterBreak (applyReport (breakClose s).2 (breakClose s).1) := by
  have hdue : s.runBreakDue = true := by
    simp only [State.runBreakDue, hr, hm, Option.isSome_some, Bool.true_and, Bool.and_true]
    exact decide_eq_true hc
  have hframe : closeFrame s = s := by
    unfold closeFrame
    rw [hf]
  unfold takeRunBreak
  rw [if_pos hdue, hframe]
  rfl

/-- With the run at an end the break's opening half leaves the reader. -/
theorem afterBreak_fr (hrun : x.fr.run = none) : (afterBreak x).fr = x.fr := by
  unfold afterBreak
  rw [syncPhase_fr, breakOpen_of_no_run (x := syncPhase x) (by rw [syncPhase_fr]; exact hrun), syncPhase_fr]

theorem afterBreak_rc (x : State) : (afterBreak x).rc = x.rc := (afterBreak_keeps x).2.2.2.2.1

/-- A header run has opened its record. -/
theorem afterBreak_fr_of_header (hr : x.fr.run = some r) (hm : x.fr.mode = .parse false) (hl : 3 ≤ r.length) :
    (afterBreak x).fr =
      { x.fr with run := none, record := some r.opened, acc := r.xor, closeCount := x.fr.runCount, search := none } := by
  unfold afterBreak
  rw [syncPhase_fr, breakOpen_of_header (x := syncPhase x) (by rw [syncPhase_fr]; exact hr) (by rw [syncPhase_fr]; exact hm) hl]
  change ({ (syncPhase x).fr with
    run := none, record := some r.opened, acc := r.xor, closeCount := (syncPhase x).fr.runCount, search := none } : FrameReader) = _
  rw [syncPhase_fr]

/-- The phase of a command agrees with the reader: none of RECORD with no record open, none of SEARCH with one. -/
theorem syncPhase_of_agreeing (hoc : x.oc = .active a)
    (h : (x.fr.record = none ∧ a.phase ≠ .record) ∨ (x.fr.record.isSome = true ∧ a.phase ≠ .search)) : syncPhase x = x := by
  rcases h with ⟨hrec, hp⟩ | ⟨hrec, hp⟩
  · rw [syncPhase_of_no_record hoc hrec, if_neg hp]
  · rw [syncPhase_of_record hoc hrec, if_neg hp]

theorem afterBreak_of_agreeing (hoc : x.oc = .active a) (hrun : x.fr.run = none)
    (h : (x.fr.record = none ∧ a.phase ≠ .record) ∨ (x.fr.record.isSome = true ∧ a.phase ≠ .search)) : afterBreak x = x := by
  have hs := syncPhase_of_agreeing hoc h
  rw [afterBreak, hs, breakOpen_of_no_run hrun, hs]

/-- The command as its reader has a record open: SEARCH has become RECORD, from the phase count 0 (R45, R53). -/
def State.opensRecord (s : State) (a : Active) (fr : FrameReader) : State :=
  { s with
    oc := .active { a with phase := if a.phase = .search then .record else a.phase }
    timer := if a.phase = .search then { s.timer with phase := some 0, target := none } else s.timer
    fr := fr }

theorem syncPhase_opens (hoc : s.oc = .active a) (hrec : fr.record.isSome = true) :
    syncPhase (s.setFr fr) = s.opensRecord a fr := by
  rw [syncPhase_of_record (x := s.setFr fr) hoc hrec, State.opensRecord]
  by_cases hp : a.phase = .search
  · rw [if_pos hp, if_pos hp, if_pos hp]
    rfl
  · have ha : { a with phase := a.phase } = a := rfl
    rw [if_neg hp, if_neg hp, if_neg hp, ha, ← hoc]
    rfl

theorem afterBreak_opens (hoc : s.oc = .active a) (hrec : fr.record.isSome = true) (hrun : fr.run = none) :
    afterBreak (s.setFr fr) = s.opensRecord a fr := by
  have hp : (if a.phase = .search then Phase.record else a.phase) ≠ .search := by
    split
    · nofun
    · assumption
  have hagree : syncPhase (s.opensRecord a fr) = s.opensRecord a fr :=
    syncPhase_of_agreeing (a := { a with phase := if a.phase = .search then .record else a.phase }) rfl (.inr ⟨hrec, hp⟩)
  rw [afterBreak, syncPhase_opens hoc hrec, breakOpen_of_no_run (x := s.opensRecord a fr) hrun, hagree]

/-- A header run in GAP opens its record in the command's phase. -/
theorem afterBreak_opens_header (hoc : s.oc = .active a) (hp : a.phase ≠ .record) (hrec : fr.record = none) (hr : fr.run = some r)
    (hm : fr.mode = .parse false) (hl : 3 ≤ r.length) :
    afterBreak (s.setFr fr) =
      s.opensRecord a
        { fr with run := none, record := some r.opened, acc := r.xor, closeCount := fr.runCount, search := none } := by
  rw [afterBreak, syncPhase_of_agreeing (x := s.setFr fr) hoc (.inl ⟨hrec, hp⟩),
    breakOpen_of_header (x := s.setFr fr) hr hm hl]
  exact syncPhase_opens hoc rfl

/-- With the run at an end the effect of a control reset stands as it is through the opening half. -/
theorem afterBreak_reset (hrun : z.fr.run = none) : afterBreak (controlResetEffect z) = controlResetEffect z := by
  have hno : ∀ b, (controlResetEffect z).oc ≠ .active b := fun b hb => by
    rcases controlResetEffect_oc z with e | e <;> simp [e] at hb
  have hnone : (controlResetEffect z).fr.run = none := by
    rw [controlResetEffect_eq]
    rcases enterStopping_cases (clearedForReset z) with ⟨-, e⟩ | ⟨-, e⟩ <;> rw [e]
    · exact (congrArg FrameReader.run (clearedForReset_fr z)).trans
        (congrArg (Option.map fun r : Run => { r with eligible := false }) hrun :)
    · rfl
  rw [afterBreak_of_inactive hno, breakOpen_of_no_run hnone]

end Break

end Sys2Proof.Machine
end

section
/-! PROOF. What a run break that closes a record leaves, in each course of its close (R53, R88, R89, R97, R98, R197, R199). -/

namespace Sys2Proof.Machine

section Closing
variable {s z t : State} {a b : Active} {o : OpenRecord} {h : Header} {k : Trailer} {u : UnitId} {r : Run} {fr : FrameReader}
  {rc : RecordCatalogue} {outcome : CmdOutcome}

/-- The phase in which a command goes on with no record open: RAMP stays (log 18). -/
def Active.gap (a : Active) : Phase := if a.phase = .ramp then .ramp else .search

theorem closedOver_broken (hoc : s.oc = .active a) (fr : FrameReader) (rc : RecordCatalogue) :
    ClosedOver s ((s.setFr fr).recordClosed rc) a := ⟨rfl, rfl, hoc, rfl, rfl, rfl, rfl⟩

theorem gapPhase_broken (hoc : s.oc = .active a) (fr : FrameReader) (rc : RecordCatalogue)
    (hp : a.phase = .record ∨ a.phase = .search ∨ a.phase = .ramp) : GapPhase ((s.setFr fr).recordClosed rc) a a.gap :=
  gapPhase_recordClosed (s := s.setFr fr) hoc rc hp

theorem not_turn (hp : a.phase = .record ∨ a.phase = .search ∨ a.phase = .ramp) :
    a.phase ≠ .turnStop ∧ a.phase ≠ .turnRamp ∧ a.phase ≠ .turnPass := by
  rcases hp with e | e | e <;> rw [e] <;> decide

/-! ### The run is at an end: a trailer forward, or a header run in reverse -/

/-- The state after a break that ends the run and closes a record. -/
def State.broken (s : State) (c : CloseReport) (fr : FrameReader) (rc : RecordCatalogue) : State :=
  afterBreak (applyClose c ((s.setFr fr).recordClosed rc))

theorem broken_finishing {f : Finishing} (hoc : s.oc = .finishing f) (hrun : fr.run = none) (c : CloseReport) (rc : RecordCatalogue) :
    s.broken c fr rc = { s with rc := rc, fr := { fr with record := none, closeCount := 0, search := none } } := by
  have hno := not_active_of_finishing hoc
  rw [State.broken, applyClose_of_inactive c (z := (s.setFr fr).recordClosed rc) hno,
    afterBreak_of_inactive (x := (s.setFr fr).recordClosed rc) hno, breakOpen_of_no_run (x := (s.setFr fr).recordClosed rc) hrun,
    State.recordClosed, searchRuns_of_inactive (s := s.setFr fr) hno]
  rfl

theorem broken_reset (hoc : s.oc = .active a) (hp : s.hw.resetPending = true) (hph : a.phase ≠ .trailerCheck) (hrun : fr.run = none)
    (c : CloseReport) (rc : RecordCatalogue) :
    (s.broken c fr rc).rc = rc ∧ (s.broken c fr rc).fr.record = none ∧ resetTaken s (s.broken c fr rc) := by
  have hz := closedOver_broken hoc fr rc
  rw [State.broken, applyClose_pending c hz.oc hp, afterBreak_reset (z := (s.setFr fr).recordClosed rc) hrun]
  exact ⟨(controlResetEffect_closed hz.oc rfl (.inl hrun) hph).1, controlResetEffect_record rfl,
    controlResetEffect_taken rfl rfl rfl (.inl rfl)⟩

/-- The record is in the catalogue and none is open. -/
theorem broken_placed (hoc : s.oc = .active a) (hp : s.hw.resetPending = false) (hrun : fr.run = none) (c : CloseReport)
    (rc : RecordCatalogue) : (s.broken c fr rc).rc = rc ∧ (s.broken c fr rc).fr.record = none := by
  obtain ⟨h1, h2, h3⟩ := applyClose_placed c (closedOver_broken hoc fr rc) hp (.inl hrun)
  exact ⟨(afterBreak_rc _).trans h1, (congrArg FrameReader.record (afterBreak_fr (h3 hrun))).trans h2⟩

theorem broken_aborted (hoc : s.oc = .active a) (hp : s.hw.resetPending = false) (ha : a.abortMark = true) (o : OpenRecord) (h : Header)
    (k : Trailer) (fr : FrameReader) (rc : RecordCatalogue) :
    CompletesClose a o h k .aborted fr.account s (s.broken (closeReportOf s o h k) fr rc) :=
  (applyClose_aborted_completes (closedOver_broken hoc fr rc) hp ha).1.afterwards afterBreak_endKept

/-- A command that goes on in GAP. -/
theorem search_of_goesOn {b : Active} (hg : GoesOn b a.gap s t) : t.fr.search = if a.phase = .ramp then none else some 0 := by
  obtain ⟨-, h2, h3, -⟩ := hg
  by_cases hr : a.phase = .ramp
  · rw [if_pos hr]
    exact h3 (if_pos hr)
  · rw [if_neg hr]
    exact h2 (if_neg hr)

section Gap
variable (hoc : s.oc = .active a) (hp : s.hw.resetPending = false) (ha : a.abortMark = false) (hrun : fr.run = none)
  (hph : a.phase = .record ∨ a.phase = .search ∨ a.phase = .ramp)
include hoc hrun hph

theorem afterClose_broken (rc : RecordCatalogue) : AfterClose ((s.setFr fr).recordClosed rc) a a.gap afterBreak :=
  afterClose_afterBreak rfl hrun (gapPhase_broken hoc fr rc hph)

include hp ha

theorem broken_counts (o : OpenRecord) (h : Header) (k : Trailer) (rc : RecordCatalogue) :
    closeCounts a h k a.gap s (s.broken (closeReportOf s o h k) fr rc) :=
  closeCounts_of (closedOver_broken hoc fr rc) hp ha (not_turn hph) (afterClose_broken hoc hrun hph rc) rfl

/-- A READ or READ STREAM goes on over a record it has not received. -/
theorem broken_unreceived (hc : a.cmd.code = .read ∨ a.cmd.code = .readStream) (hg : o.received = false) (h : Header) (k : Trailer)
    (rc : RecordCatalogue) :
    GoesOn (a.withLong h.long) a.gap s (s.broken (closeReportOf s o h k) fr rc) ∧
      (s.broken (closeReportOf s o h k) fr rc).fr.account = fr.account := by
  obtain ⟨e, hgoes⟩ := goesOn_unreceived (o := o) (h := h) (k := k) (closedOver_broken hoc fr rc) hp ha hc hg
    (afterClose_broken hoc hrun hph rc)
  refine ⟨hgoes, ?_⟩
  rw [State.broken, (afterBreak_keeps _).2.2.2.2.2, e]
  rfl

end Gap

/-- The outcome of a record received, and no record received after it. -/
def EndsReceived (a : Active) (o : OpenRecord) (h : Header) (k : Trailer) (outcome : CmdOutcome) (acct : ReadAccount)
    (s t : State) : Prop :=
  CompletesClose a o h k outcome acct s t ∧ t.fr.account.receiving = false

theorem endsReceived_afterBreak {acct : ReadAccount} (hx : EndsReceived a o h k outcome acct s t) :
    EndsReceived a o h k outcome acct s (afterBreak t) := by
  obtain ⟨h1, h2⟩ := hx
  exact ⟨h1.afterwards afterBreak_endKept, by rw [(afterBreak_keeps t).2.2.2.2.2]; exact h2⟩

section Received
variable (hoc : s.oc = .active a) (hp : s.hw.resetPending = false) (ha : a.abortMark = false) (hg : o.received = true)
include hoc hp ha hg

/-- The outcome of a record received that is not void, the first in rank of what it has (R97). -/
def receivedOutcome (s : State) (o : OpenRecord) (h : Header) (k : Trailer) : CmdOutcome :=
  if k = .none then .unsealed else if s.badRecord h then .dataCheck else if o.overrun then .overrun
  else if o.lengthExcess then .lengthExcess else if h.kind = .mark then .mark else .done

/-- A record received that is not void ends the command with the outcome that ranks first (R97). -/
theorem broken_received (hc : a.cmd.code = .read ∨ a.cmd.code = .readStream) (hk : k ≠ .void) (h : Header) (fr : FrameReader)
    (rc : RecordCatalogue) :
    EndsReceived a o h k (receivedOutcome s o h k) fr.account s (s.broken (closeReportOf s o h k) fr rc) := by
  have hz := closedOver_broken hoc fr rc
  rw [State.broken, applyClose_of_received hz hp ha hc hg, closeReceived_of_kept _ _ hk]
  exact endsReceived_afterBreak (concludeRead_received hz hp _)

theorem broken_voidStream (hc : a.cmd.code = .readStream) (hk : k = .void) (h : Header) (fr : FrameReader) (rc : RecordCatalogue) :
    EndsReceived a o h k .voidRead fr.account s (s.broken (closeReportOf s o h k) fr rc) := by
  have hz := closedOver_broken hoc fr rc
  obtain ⟨hcredit, -⟩ := credited_same a (closeReportOf s o h k) ((s.setFr fr).recordClosed rc)
  rw [State.broken, applyClose_of_received hz hp ha (.inr hc) hg,
    closeReceived_of_voidStream _ hk (by rw [hcredit, creditClose_same]; exact hc)]
  exact endsReceived_afterBreak (concludeRead_received hz hp _)

theorem applyClose_voidRead (hc : a.cmd.code = .read) (hk : k = .void) (h : Header) (fr : FrameReader) (rc : RecordCatalogue) :
    applyClose (closeReportOf s o h k) ((s.setFr fr).recordClosed rc) =
      if fr.account.voids + 1 < 8 then
        ((spared a (closeReportOf s o h k) ((s.setFr fr).recordClosed rc)).withAccount
            { fr.account with voids := fr.account.voids + 1 }).setOc
          (.active { credited a (closeReportOf s o h k) ((s.setFr fr).recordClosed rc) with
            qualifiers := recordQualifiers (closeReportOf s o h k)
              (credited a (closeReportOf s o h k) ((s.setFr fr).recordClosed rc)).qualifiers })
      else
        concludeRead (credited a (closeReportOf s o h k) ((s.setFr fr).recordClosed rc)) (closeReportOf s o h k) .voidLimit
          ((spared a (closeReportOf s o h k) ((s.setFr fr).recordClosed rc)).withAccount
            { fr.account with voids := fr.account.voids + 1 }) := by
  have hz := closedOver_broken hoc fr rc
  obtain ⟨hcredit, hfr, -⟩ := credited_same a (closeReportOf s o h k) ((s.setFr fr).recordClosed rc)
  have hcode : (credited a (closeReportOf s o h k) ((s.setFr fr).recordClosed rc)).cmd.code = .read := by
    rw [hcredit, creditClose_same]
    exact hc
  rw [applyClose_of_received hz hp ha (.inl hc) hg, closeReceived_of_voidRead _ hk hcode, hfr]
  rfl

/-- The eighth void ends a READ (R98). -/
theorem broken_voidLimit (hc : a.cmd.code = .read) (hk : k = .void) (hn : 8 ≤ fr.account.voids + 1) (h : Header) (rc : RecordCatalogue) :
    EndsReceived a o h k .voidLimit fr.account s (s.broken (closeReportOf s o h k) fr rc) := by
  have hz := closedOver_broken hoc fr rc
  rw [State.broken, applyClose_voidRead hoc hp ha hg hc hk h fr rc, if_neg (Nat.not_lt.mpr hn)]
  exact endsReceived_afterBreak
    (concludeRead_completes hz hp .voidLimit (acct := { fr.account with voids := fr.account.voids + 1 }) rfl rfl rfl rfl)

/-- The command as it goes on over a void it has received: no byte of it, its conditions kept (R98, log 35). -/
def Active.skipping (a : Active) (o : OpenRecord) (h : Header) (s : State) : Active :=
  { creditClose a (closeReportOf s o h .void) with
    bytes := 0
    qualifiers :=
      recordQualifiers (closeReportOf s o h .void) (creditClose a (closeReportOf s o h .void)).qualifiers }

omit hoc hp ha in
theorem skipping_eq (hc : a.cmd.code = .read) (h : Header) :
    (a.skipping o h s).cmd = a.cmd ∧ (a.skipping o h s).phase = a.phase ∧ (a.skipping o h s).bytes = 0 ∧
      (a.skipping o h s).passed = a.passedAfter .void true ∧ (a.skipping o h s).ordinal = h.ident.map Ident.ordinal ∧
      (a.skipping o h s).qualifiers.dataCheck = (a.qualifiers.dataCheck || s.badRecord h) ∧
      (a.skipping o h s).qualifiers.lengthExcess = (a.qualifiers.lengthExcess || o.lengthExcess) := by
  have hcredit : creditClose a (closeReportOf s o h .void) =
      { a.withLong h.long with passed := min (a.passed + 1) 4095, ordinal := h.ident.map Ident.ordinal } := by
    rw [creditClose_eq, hc]
    exact if_pos hg
  have hpassed : a.passedAfter .void true = min (a.passed + 1) 4095 := by
    unfold Active.passedAfter
    rw [hc]
    rfl
  have hquals (q : Qualifiers) : recordQualifiers (closeReportOf s o h .void) q =
      { q with
        unsealed := q.unsealed || decide (Trailer.void = Trailer.none), dataCheck := q.dataCheck || s.badRecord h
        overrun := q.overrun || o.overrun, lengthExcess := q.lengthExcess || o.lengthExcess } := if_pos hg
  rw [Active.skipping, hcredit, hpassed, hquals]
  exact ⟨rfl, rfl, rfl, rfl, rfl, rfl, rfl⟩

theorem broken_skips (hrun : fr.run = none) (hph : a.phase = .record ∨ a.phase = .search ∨ a.phase = .ramp) (hc : a.cmd.code = .read)
    (hk : k = .void) (hn : fr.account.voids + 1 < 8) (h : Header) (rc : RecordCatalogue) :
    (s.broken (closeReportOf s o h k) fr rc).oc = .active { a.skipping o h s with phase := a.gap } ∧
      (s.broken (closeReportOf s o h k) fr rc).bu = s.bu.setFill a.cmd.buffer 0 ∧
      (s.broken (closeReportOf s o h k) fr rc).fr.account = { fr.account with voids := fr.account.voids + 1 } ∧
      (s.broken (closeReportOf s o h k) fr rc).fr.search = (if a.phase = .ramp then none else some 0) ∧
      (s.broken (closeReportOf s o h k) fr rc).cmp = s.cmp := by
  subst hk
  obtain ⟨hcredit, hspare⟩ := discardVoid_of_discarded (a := a) (r := closeReportOf s o h .void) (z := (s.setFr fr).recordClosed rc)
    ⟨hc, hg, rfl⟩ hp
  have e := applyClose_voidRead hoc hp ha hg hc (k := .void) rfl h fr rc
  rw [if_pos hn, hcredit, hspare] at e
  obtain ⟨-, hphase, -⟩ := skipping_eq (s := s) hg hc h
  obtain ⟨g1, g2, g3⟩ := (afterClose_broken hoc hrun hph rc).goes (a.skipping o h s)
    (applyClose (closeReportOf s o h .void) ((s.setFr fr).recordClosed rc)) hphase (by rw [e]; rfl) (by rw [e]; rfl)
  obtain ⟨k1, -, k3, -, -, k6⟩ := afterBreak_keeps (applyClose (closeReportOf s o h .void) ((s.setFr fr).recordClosed rc))
  have hsearch : (s.broken (closeReportOf s o h .void) fr rc).fr.search = if a.phase = .ramp then none else some 0 := by
    by_cases hr : a.phase = .ramp
    · rw [if_pos hr]
      exact g3 (if_pos hr)
    · rw [if_neg hr]
      exact g2 (if_neg hr)
  refine ⟨g1, k3.trans ?_, k6.trans ?_, hsearch, k1.trans ?_⟩
  all_goals
    rw [e]
    rfl

end Received

/-! ### The record of TURN (R54, log 19) -/

/-- A LOCATE in the reverse part of TURN ends DONE at its record, uncounted. -/
theorem broken_turn (hoc : s.oc = .active a) (hp : s.hw.resetPending = false) (ha : a.abortMark = false)
    (hph : a.phase = .turnRamp ∨ a.phase = .turnPass) (hc : a.cmd.code = .locate) (o : OpenRecord) (h : Header) (k : Trailer)
    (fr : FrameReader) (rc : RecordCatalogue) : CompletesCount a (a.seen h) .done s (s.broken (closeReportOf s o h k) fr rc) := by
  have hz := closedOver_broken hoc fr rc
  have hcredit : creditClose a (closeReportOf s o h k) = a.seen h := by
    rw [creditClose_eq, hc]
    rcases hph with e | e <;> rw [e] <;> rfl
  have hclose : closeLocate (a.seen h) (closeReportOf s o h k) ((s.setFr fr).recordClosed rc) =
      conclude (a.seen h) .done (.finish 16) ((s.setFr fr).recordClosed rc) := by
    unfold closeLocate
    rw [show (a.seen h).phase = a.phase from rfl]
    rcases hph with e | e <;> rw [e] <;> rfl
  rw [State.broken, applyClose_of_locate hz hp ha hc, hcredit, hclose]
  exact completes_of (b := a.seen h) afterBreak_endKept hz hp (by rw [hc]; rfl) rfl rfl .done

/-! ### A forward header run, which opens its record after the close (R88) -/

section Header
variable (hrun : fr.run = some r) (hm : fr.mode = .parse false) (hl : 3 ≤ r.length)
include hrun hm hl

/-- The reader with the record of a header run open. -/
def FrameReader.opening (fr : FrameReader) (r : Run) : FrameReader :=
  { fr with run := none, record := some r.opened, acc := r.xor, closeCount := fr.runCount, search := none }

theorem broken_header_finishing {f : Finishing} (hoc : s.oc = .finishing f) (c : CloseReport) (rc : RecordCatalogue) :
    s.broken c fr rc = { s with rc := rc, fr := fr.opening r } := by
  have hno := not_active_of_finishing hoc
  rw [State.broken, applyClose_of_inactive c (z := (s.setFr fr).recordClosed rc) hno,
    afterBreak_of_inactive (x := (s.setFr fr).recordClosed rc) hno,
    breakOpen_of_header (x := (s.setFr fr).recordClosed rc) hrun hm hl]
  rfl

/-- A reader after the close opens the record of the run it has kept, received or not. -/
theorem opening_of_readerAfter (hy : ReaderAfter ((s.setFr fr).recordClosed rc) t) :
    (afterBreak t).rc = rc ∧
      ((afterBreak t).fr = t.fr.opening r ∨ (afterBreak t).fr = t.fr.opening r.released) ∧ t.fr.runCount = fr.runCount := by
  obtain ⟨h1, h2, -, h4, h5⟩ := hy
  refine ⟨(afterBreak_rc t).trans h1, ?_, h4⟩
  rcases h5 with e | e
  · exact .inl (afterBreak_fr_of_header (e.trans hrun) (h2.trans hm) hl)
  · exact .inr (afterBreak_fr_of_header (r := r.released) (e.trans (congrArg (Option.map Run.released) hrun)) (h2.trans hm) hl)

theorem broken_header_reset (hoc : s.oc = .active a) (hp : s.hw.resetPending = true) (hph : a.phase ≠ .trailerCheck)
    (c : CloseReport) (rc : RecordCatalogue) :
    (s.broken c fr rc).rc = rc ∧ resetTaken s (s.broken c fr rc) ∧
      ((s.broken c fr rc).oc = .stopping →
        (s.broken c fr rc).fr = ({ fr with account := .empty } : FrameReader).opening r.released) := by
  have hz := closedOver_broken hoc fr rc
  have htaken : resetTaken s (controlResetEffect ((s.setFr fr).recordClosed rc)) := controlResetEffect_taken rfl rfl rfl (.inl rfl)
  have hno : ∀ b, (controlResetEffect ((s.setFr fr).recordClosed rc)).oc ≠ .active b := fun b hb => by
    rcases controlResetEffect_oc ((s.setFr fr).recordClosed rc) with e | e <;> simp [e] at hb
  obtain ⟨h1, h2⟩ := controlResetEffect_closed hz.oc rfl (.inr hm) hph
  rw [State.broken, applyClose_pending c hz.oc hp, afterBreak_of_inactive hno]
  obtain ⟨fr', e, haccount, -⟩ := breakOpen_keeps (controlResetEffect ((s.setFr fr).recordClosed rc))
  refine ⟨(breakOpen_rc _).trans h1, ?_, fun hst => ?_⟩
  · rw [e]
    unfold resetTaken resetClears at htaken ⊢
    rw [← haccount] at htaken
    exact htaken
  · rw [e] at hst
    rcases h2 with ⟨-, hfr⟩ | ⟨hidle, -⟩
    · rw [breakOpen_of_header (r := r.released)
        (by rw [hfr]; exact congrArg (Option.map Run.released) hrun) (by rw [hfr]; exact hm) hl, hfr]
      rfl
    · exact absurd (hidle.symm.trans hst) nofun

/-- The reader of a forward header run as its record opens. -/
def OpensNext (r : Run) (s t : State) : Prop :=
  t.fr.run = none ∧ t.fr.acc = r.xor ∧ t.fr.closeCount = s.fr.runCount ∧ t.fr.search = none ∧
    ∃ received, t.fr.record = some { r.opened with received := received }

omit hrun hm hl in
theorem opensNext_of_opening {fr' : FrameReader} (hc : fr'.runCount = s.fr.runCount)
    (h : t.fr = fr'.opening r ∨ t.fr = fr'.opening r.released) : OpensNext r s t := by
  rcases h with h | h
  · rw [OpensNext, h]
    exact ⟨rfl, rfl, hc, rfl, r.eligible, rfl⟩
  · rw [OpensNext, h]
    exact ⟨rfl, rfl, hc, rfl, false, rfl⟩

/-- After a posting the record opens unreceived (log 17). -/
theorem broken_header_concluded {c : CloseReport} {acct : ReadAccount} (hoc : s.oc = .active a) (hp : s.hw.resetPending = false)
    (e : applyClose c ((s.setFr fr).recordClosed rc) =
      conclude b outcome (.finish 16) ((spared a c ((s.setFr fr).recordClosed rc)).withAccount acct)) :
    (s.broken c fr rc).rc = rc ∧ (s.broken c fr rc).fr = ({ fr with account := acct } : FrameReader).opening r.released := by
  obtain ⟨h1, h2⟩ := conclude_reader (r := c) (closedOver_broken hoc fr rc) hp b outcome acct
  rw [State.broken, e]
  refine ⟨(afterBreak_rc _).trans h1, ?_⟩
  rw [afterBreak_fr_of_header (r := r.released) (by rw [h2]; exact congrArg (Option.map Run.released) hrun) (by rw [h2]; exact hm) hl, h2]
  rfl

theorem broken_header_aborted (hoc : s.oc = .active a) (hp : s.hw.resetPending = false) (ha : a.abortMark = true) (o : OpenRecord)
    (h : Header) (k : Trailer) (rc : RecordCatalogue) :
    (s.broken (closeReportOf s o h k) fr rc).rc = rc ∧ ∃ acct,
      (s.broken (closeReportOf s o h k) fr rc).fr = ({ fr with account := acct } : FrameReader).opening r.released := by
  obtain ⟨b, acct, e⟩ := (applyClose_aborted_completes (o := o) (h := h) (k := k) (closedOver_broken hoc fr rc) hp ha).2
  obtain ⟨h1, h2⟩ := broken_header_concluded hrun hm hl hoc hp e
  exact ⟨h1, acct, h2⟩

section Reading
variable (hoc : s.oc = .active a) (hp : s.hw.resetPending = false) (ha : a.abortMark = false)
  (hph : a.phase = .record ∨ a.phase = .ramp)
include hoc hp ha hph

theorem broken_header_counts (hsel : s.tlc.selected = some u) (hw : s.underWay u) (hmv : (s.link u).lines.moving = true) (o : OpenRecord)
    (h : Header) (k : Trailer) (rc : RecordCatalogue) :
    (s.broken (closeReportOf s o h k) fr rc).rc = rc ∧
      ((s.broken (closeReportOf s o h k) fr rc).fr = (applyClose (closeReportOf s o h k) ((s.setFr fr).recordClosed rc)).fr.opening r ∨
        (s.broken (closeReportOf s o h k) fr rc).fr =
          (applyClose (closeReportOf s o h k) ((s.setFr fr).recordClosed rc)).fr.opening r.released) ∧
      (applyClose (closeReportOf s o h k) ((s.setFr fr).recordClosed rc)).fr.runCount = fr.runCount ∧
      closeCounts a h k a.phase s (s.broken (closeReportOf s o h k) fr rc) := by
  have hz := closedOver_broken hoc fr rc
  have hturn : a.phase ≠ .turnStop ∧ a.phase ≠ .turnRamp ∧ a.phase ≠ .turnPass :=
    not_turn (hph.elim (fun e => .inl e) fun e => .inr (.inr e))
  obtain ⟨h1, h2, h3⟩ := opening_of_readerAfter hrun hm hl
    (applyClose_readerAfter (closeReportOf s o h k) hz hp fun _ => ⟨hsel, hw, hmv⟩)
  exact ⟨h1, h2, h3, closeCounts_of hz hp ha hturn (afterClose_header rfl hrun hm hl hph) rfl⟩

theorem broken_header_unreceived (hc : a.cmd.code = .read ∨ a.cmd.code = .readStream) (hg : o.received = false) (h : Header) (k : Trailer)
    (rc : RecordCatalogue) :
    (s.broken (closeReportOf s o h k) fr rc).rc = rc ∧
      (s.broken (closeReportOf s o h k) fr rc).fr = fr.opening r ∧
      GoesOn (a.withLong h.long) a.phase s (s.broken (closeReportOf s o h k) fr rc) := by
  obtain ⟨e, hgoes⟩ := goesOn_unreceived (o := o) (h := h) (k := k) (closedOver_broken hoc fr rc) hp ha hc hg
    (afterClose_header rfl hrun hm hl hph)
  refine ⟨?_, ?_, hgoes⟩
  · rw [State.broken, afterBreak_rc, e]
    rfl
  · rw [State.broken, e]
    exact afterBreak_fr_of_header (x := (((s.setFr fr).recordClosed rc).setOc (.active (a.withLong h.long)))) hrun hm hl

omit hph in
theorem broken_header_received (hc : a.cmd.code = .read ∨ a.cmd.code = .readStream) (hg : o.received = true) (h : Header)
    (rc : RecordCatalogue) :
    (s.broken (closeReportOf s o h .none) fr rc).rc = rc ∧ ∃ acct,
      (s.broken (closeReportOf s o h .none) fr rc).fr = ({ fr with account := acct } : FrameReader).opening r.released :=
  have e := applyClose_unsealed (h := h) (closedOver_broken hoc fr rc) hp ha hc hg
  have hopen := broken_header_concluded hrun hm hl hoc hp e
  ⟨hopen.1, _, hopen.2⟩

end Reading

end Header

end Closing

end Sys2Proof.Machine
end

section
/-! PROOF. The closing half of a run break in both directions (R88, R89, R91, R92). -/

namespace Sys2Proof.Machine

section Onward
variable {s : State} {a : Active} {o : OpenRecord} {h : Header} {u : UnitId} {r : Run}

/-- The account of a run whose command, if any, is in force. -/
def State.talliedBy (s : State) (t : Tallies) : ReadAccount := (s.fr.addTallies t s.inForce).account

theorem addTallies_eq (s : State) (run : Option Run) (t : Tallies) :
    ({ s.fr with run := run } : FrameReader).addTallies t s.inForce = { s.fr with run := run, account := s.talliedBy t } := by
  unfold State.talliedBy FrameReader.addTallies
  dsimp only
  split <;> rfl

theorem talliedBy_of_active (hoc : s.oc = .active a) (t : Tallies) :
    s.talliedBy t = s.fr.tallied t.corrected t.marginal t.skewed := by
  rw [State.talliedBy, inForce_of hoc, addTallies_inForce]

theorem talliedBy_of_inactive (hno : ∀ b, s.oc ≠ .active b) (t : Tallies) : s.talliedBy t = s.fr.account := by
  rw [State.talliedBy, inForce_of_inactive hno, FrameReader.addTallies_out]

theorem talliedBy_of_pass (hm : s.fr.manner = .pass) (t : Tallies) : s.talliedBy t = s.fr.account := by
  rw [State.talliedBy, addTallies_of_pass _ _ _ hm]

/-- The run in progress and the account are nothing to the record that closes. -/
theorem closeRecord_counted (hsel : s.tlc.selected = some u) (o : OpenRecord) (h : Header) (k : Trailer) (run : Option Run)
    (acct : ReadAccount) :
    closeRecord o h k false (s.setFr { s.fr with run := run, account := acct }) =
      ((s.setFr { s.fr with run := run, account := acct }).recordClosed (placeForward u (s.readRecord h k) false s).rc,
        .closed (closeReportOf s o h k)) := by
  rw [closeRecord_forward (s := s.setFr { s.fr with run := run, account := acct }) hsel]
  have e : (placeForward u ((s.setFr { s.fr with run := run, account := acct }).readRecord h k) false
      (s.setFr { s.fr with run := run, account := acct })).rc = (placeForward u (s.readRecord h k) false s).rc :=
    placeForward_rc_congr (s := s) (r := s.setFr { s.fr with run := run, account := acct }) rfl rfl u _ false
  rewrite [e]
  rfl

section Forward
variable (hr : s.fr.run = some r) (hm : s.fr.mode = .parse false)
include hr hm

theorem breakClose_forward_header_eq (hl : 3 ≤ r.length) : breakClose s = breakForward r s := by
  unfold breakClose
  rw [hr, hm]
  exact if_pos hl

theorem breakClose_forward_short_eq (hl : r.length < 3) : breakClose s = breakForward r (s.setFr { s.fr with run := none }) := by
  unfold breakClose
  rw [hr, hm]
  exact if_neg (Nat.not_le.mpr hl)

/-- A header run in GAP: its tallies join the account (R99, log 16). -/
theorem breakClose_gap_header (ho : s.fr.record = none) (hl : 3 ≤ r.length) :
    breakClose s = (s.setFr { s.fr with run := some r, account := s.talliedBy r.tallies }, .quiet) := by
  obtain ⟨n, hn⟩ : ∃ n, r.length = n + 3 := ⟨r.length - 3, by omega⟩
  rw [breakClose_forward_header_eq hr hm hl, ← addTallies_eq, ← hr]
  unfold breakForward
  rewrite [ho, hn]
  rfl

/-- A run of one or two frames in GAP is a fragment. -/
theorem breakClose_gap_fragment (ho : s.fr.record = none) (hl : r.length = 1 ∨ r.length = 2) :
    breakClose s = (s.setFr (({ s.fr with run := none } : FrameReader).markFragments s.inForce), .quiet) := by
  rw [breakClose_forward_short_eq hr hm (by omega)]
  unfold breakForward
  rw [show (s.setFr { s.fr with run := none }).fr.record = none from ho]
  rcases hl with hl | hl <;> rw [hl] <;> rfl

/-- A single frame in RECORD: the LCF, or a fragment after it. -/
theorem breakClose_record_single (ho : s.fr.record = some o) (hl : r.length = 1) :
    breakClose s =
      if o.lcf then (s.setFr (({ s.fr with run := none } : FrameReader).markFragments s.inForce), .quiet)
      else (s.setFr (({ s.fr with run := none } : FrameReader).takeLcf r s.inForce), .quiet) := by
  rw [breakClose_forward_short_eq hr hm (by omega)]
  unfold breakForward
  rewrite [show (s.setFr { s.fr with run := none }).fr.record = some o from ho, hl]
  rfl

/-- Two frames close the record with the trailer they show. -/
theorem breakClose_record_trailer (hsel : s.tlc.selected = some u) (ho : s.fr.record = some o) (hh : o.header = some h)
    (hl : r.length = 2) :
    breakClose s =
      ((s.setFr { s.fr with run := none, account := s.talliedBy r.tallies }).recordClosed
          (placeForward u (s.readRecord h (trailerOf (r.trailerPattern false))) false s).rc,
        .closed (closeReportOf s o h (trailerOf (r.trailerPattern false)))) := by
  rw [breakClose_forward_short_eq hr hm (by omega), ← closeRecord_counted hsel, ← addTallies_eq]
  unfold breakForward
  rewrite [show (s.setFr { s.fr with run := none }).fr.record = some o from ho, hl]
  dsimp only
  rewrite [hh]
  rfl

/-- A header run closes the older record unsealed. -/
theorem breakClose_record_header (hsel : s.tlc.selected = some u) (ho : s.fr.record = some o) (hh : o.header = some h)
    (hl : 3 ≤ r.length) :
    breakClose s =
      ((s.setFr { s.fr with run := some r, account := s.talliedBy r.tallies }).recordClosed
          (placeForward u (s.readRecord h .none) false s).rc,
        .closed (closeReportOf s o h .none)) := by
  obtain ⟨n, hn⟩ : ∃ n, r.length = n + 3 := ⟨r.length - 3, by omega⟩
  rw [breakClose_forward_header_eq hr hm hl, ← closeRecord_counted hsel, ← addTallies_eq, ← hr]
  unfold breakForward
  rewrite [ho, hn]
  dsimp only
  rewrite [hh]
  rfl

end Forward

/-! ### In reverse, in pass manner -/

section Reverse
variable (hr : s.fr.run = some r) (hm : s.fr.mode = .parse true) (hpass : s.fr.manner = .pass)
include hr hm

/-- The record that a run opens in reverse. -/
def OpenRecord.reversed (lcf : Bool) (k : Option TrailerKind) : OpenRecord :=
  { header := none, lcf := lcf, trailer := k, received := false, lengthExcess := false, overrun := false }

/-- The reader with a reverse record open. -/
def FrameReader.openingReverse (fr : FrameReader) (lcf : Bool) (k : Option TrailerKind) (acc : Lanes) : FrameReader :=
  { fr with run := none, record := some (.reversed lcf k), acc := acc, closeCount := fr.runCount, search := none }

theorem breakClose_reverse_eq : breakClose s = breakReverse r (s.setFr { s.fr with run := none }) := by
  unfold breakClose
  rw [hr, hm]

theorem breakClose_reverse_single (hl : r.length = 1) (ho : s.fr.record = some o) :
    breakClose s =
      if o.lcf then (s.setFr (({ s.fr with run := none } : FrameReader).markFragments s.inForce), .quiet)
      else (s.setFr (({ s.fr with run := none } : FrameReader).takeLcf r s.inForce), .quiet) := by
  rw [breakClose_reverse_eq hr hm]
  unfold breakReverse
  rewrite [hl]
  dsimp only
  rewrite [show (s.setFr { s.fr with run := none }).fr.record = some o from ho]
  rfl

theorem breakClose_reverse_fragment (hl : r.length = 2) (hk : r.trailerPattern true = none) :
    breakClose s = (s.setFr (({ s.fr with run := none } : FrameReader).markFragments s.inForce), .quiet) := by
  rw [breakClose_reverse_eq hr hm]
  unfold breakReverse
  rewrite [hl]
  dsimp only
  rewrite [hk]
  rfl

include hpass

theorem breakClose_reverse_lcf {x : ReadFrame} (hl : r.length = 1) (hx : r.first = [x]) (ho : s.fr.record = none) :
    breakClose s = (s.setFr (s.fr.openingReverse true none x.strong), .quiet) := by
  rw [breakClose_reverse_eq hr hm]
  unfold breakReverse
  rewrite [hl]
  dsimp only
  rewrite [show (s.setFr { s.fr with run := none }).fr.record = none from ho, hx,
    addTallies_of_pass (s.setFr { s.fr with run := none }).fr _ _ hpass]
  rfl

omit hr hm in
/-- A trailer opens its record, and displaces an open one. -/
theorem breakReverse_trailer {k : TrailerKind} (hl : r.length = 2) (hk : r.trailerPattern true = some k) :
    breakReverse r s =
      (s.setFr
        { (if s.fr.record.isSome then s.fr.markFragments s.inForce else s.fr) with
          record := some (.reversed false (some k)), acc := 0, closeCount := s.fr.runCount, search := none },
        if s.fr.record.isSome then .lost else .quiet) := by
  have hmark : (if s.fr.record.isSome then s.fr.markFragments s.inForce else s.fr).manner = .pass := by
    unfold FrameReader.markFragments
    split
    · split <;> exact hpass
    · exact hpass
  have e := addTallies_of_pass (if s.fr.record.isSome then s.fr.markFragments s.inForce else s.fr) r.tallies s.inForce hmark
  unfold breakReverse
  rewrite [hl]
  dsimp only
  rewrite [hk]
  dsimp only
  rewrite [e]
  rfl

/-- A trailer in GAP opens its record. -/
theorem breakClose_reverse_opens {k : TrailerKind} (hl : r.length = 2) (hk : r.trailerPattern true = some k) (ho : s.fr.record = none) :
    breakClose s = (s.setFr (s.fr.openingReverse false (some k) 0), .quiet) := by
  rw [breakClose_reverse_eq hr hm, breakReverse_trailer (s := s.setFr { s.fr with run := none }) hpass hl hk,
    show (s.setFr { s.fr with run := none }).fr.record = none from ho]
  rfl

/-- A trailer displaces the open record, whose runs are fragments (R92). -/
theorem breakClose_reverse_displaces {k : TrailerKind} (hl : r.length = 2) (hk : r.trailerPattern true = some k)
    (ho : s.fr.record = some o) :
    breakClose s = (s.setFr ((s.fr.markFragments s.inForce).openingReverse false (some k) 0), .lost) := by
  rw [breakClose_reverse_eq hr hm, breakReverse_trailer (s := s.setFr { s.fr with run := none }) hpass hl hk,
    show (s.setFr { s.fr with run := none }).fr.record = some o from ho]
  unfold FrameReader.markFragments
  rewrite [show (s.setFr { s.fr with run := none }).inForce = s.inForce from rfl]
  cases s.inForce <;> rfl

omit hr hm hpass in
theorem closeRecord_uncounted (hpass : s.fr.manner = .pass) (hsel : s.tlc.selected = some u) (o : OpenRecord) (h : Header) (k : Trailer)
    (acc : Lanes) :
    closeRecord o h k true (s.setFr { s.fr with run := none, acc := acc }) =
      ((s.setFr { s.fr with run := none, acc := acc }).recordClosed (placeReverse u (s.readRecord h k) s).rc,
        .closed (closeReportOf s o h k)) := by
  have bad {w : State} (hw : w.fr.manner = .pass) : w.badRecord h = false := by simp [State.badRecord, hw]
  have read {w : State} (hw : w.fr.manner = .pass) : w.readRecord h k =
      { ident := h.ident, kind := h.kind, length := h.length, long := h.long, trailer := k, condition := .unchecked } := by
    simp [State.readRecord, hw]
  have e : (placeReverse u ((s.setFr { s.fr with run := none, acc := acc }).readRecord h k)
      (s.setFr { s.fr with run := none, acc := acc })).rc = (placeReverse u (s.readRecord h k) s).rc := by
    rw [read hpass, read (w := s.setFr { s.fr with run := none, acc := acc }) hpass]
    exact placeReverse_rc_congr (s := s) (r := s.setFr { s.fr with run := none, acc := acc }) rfl rfl u _
  rw [closeRecord_reverse (s := s.setFr { s.fr with run := none, acc := acc }) hsel, e, closeReportOf, closeReportOf, bad hpass,
    bad (w := s.setFr { s.fr with run := none, acc := acc }) hpass]

/-- A header run completes the record in reverse, with the trailer that opened it. -/
theorem breakClose_reverse_header (hsel : s.tlc.selected = some u) (hl : 3 ≤ r.length) :
    ∃ o acc,
      breakClose s =
        ((s.setFr { s.fr with run := none, acc := acc }).recordClosed
            (placeReverse u (s.readRecord (r.decodeHeader true) (trailerOf (s.fr.record.bind OpenRecord.trailer))) s).rc,
          .closed (closeReportOf s o (r.decodeHeader true) (trailerOf (s.fr.record.bind OpenRecord.trailer)))) ∧
      (s.fr.record = none → acc = r.xor) ∧ (∀ p, s.fr.record = some p → acc = s.fr.acc ^^^ r.xor) := by
  obtain ⟨n, hn⟩ : ∃ n, r.length = n + 3 := ⟨r.length - 3, by omega⟩
  rw [breakClose_reverse_eq hr hm]
  cases ho : s.fr.record with
  | none =>
    refine ⟨{ OpenRecord.reversed false none with header := some (r.decodeHeader true) }, r.xor, ?_, fun _ => rfl, nofun⟩
    rw [← closeRecord_uncounted hpass hsel]
    unfold breakReverse
    rewrite [hn]
    dsimp only
    rewrite [show (s.setFr { s.fr with run := none }).fr.record = none from ho,
      addTallies_of_pass (s.setFr { s.fr with run := none }).fr r.tallies _ hpass]
    rfl
  | some o =>
    refine ⟨o, s.fr.acc ^^^ r.xor, ?_, nofun, fun _ _ => rfl⟩
    rw [← closeRecord_uncounted hpass hsel]
    unfold breakReverse
    rewrite [hn]
    dsimp only
    rewrite [show (s.setFr { s.fr with run := none }).fr.record = some o from ho,
      addTallies_of_pass (s.setFr { s.fr with run := none }).fr r.tallies _ hpass]
    rfl

end Reverse

end Onward

end Sys2Proof.Machine
end

section
/-! PROOF. The run break (R18, R19, R53, R87 to R94, R97 to R99, R161 to R165, R197, R199). -/

namespace Sys2Proof.Machine

section Rows
variable {s x : State} {a : Active} {o : OpenRecord} {r : Run} {y : ReadFrame} {reverse : Bool} {c : CloseReport} {p : ParseReport}
  {fr : FrameReader} {rc : RecordCatalogue}

/-- The row of a run break that is due. -/
theorem exec_runBreak (hund : s.undisturbed = true) (hm : s.fr.mode = .parse reverse) (hr : s.fr.run = some r) (hc : 2 ≤ s.fr.runCount)
    (hf : s.fr.frame = none) : exec .runBreak s = .next (afterBreak (applyReport (breakClose s).2 (breakClose s).1)) := by
  rw [← takeRunBreak_eq hm hr hc hf]
  exact exec_of_event hund rfl

/-- A fragment marks the account of a command in force. -/
theorem markFragments_of_active (hoc : s.oc = .active a) :
    ({ s.fr with run := none } : FrameReader).markFragments s.inForce =
      { s.fr with run := none, account := { s.fr.account with fragments := true } } := by
  rw [inForce_of hoc]
  rfl

theorem markFragments_of_inactive (hno : ∀ b, s.oc ≠ .active b) :
    ({ s.fr with run := none } : FrameReader).markFragments s.inForce = { s.fr with run := none } := by
  rw [inForce_of_inactive hno]
  rfl

/-- The LCF enters the accumulator at its strong value, and its skew the account (R91, R99). -/
theorem takeLcf_eq (ho : s.fr.record = some o) (hx : r.first = [y]) :
    ({ s.fr with run := none } : FrameReader).takeLcf r s.inForce =
      { s.fr with
        run := none, record := some { o with lcf := true }, acc := s.fr.acc ^^^ y.strong, closeCount := s.fr.runCount
        account := s.talliedBy r.tallies.skewOnly } := by
  unfold FrameReader.takeLcf
  rw [addTallies_eq, hx, ho]
  rfl

/-- A break with no close, in FINISH and the modes with no operation. -/
theorem afterBreak_of_finishing {f : Finishing} (hoc : s.oc = .finishing f) (hrun : fr.run = none) :
    afterBreak (s.setFr fr) = s.setFr fr := by
  rw [afterBreak_of_inactive (x := s.setFr fr) (not_active_of_finishing hoc), breakOpen_of_no_run (x := s.setFr fr) hrun]

/-- The reader's account at the reset, and the record that a trailer has opened (R92, R199). -/
theorem controlResetEffect_fr_of_stopping (h : (controlResetEffect x).oc = .stopping) :
    (controlResetEffect x).fr = { x.fr.afterPosting with account := .empty } := by
  rw [controlResetEffect_eq] at h ⊢
  rcases enterStopping_cases (clearedForReset x) with ⟨-, e⟩ | ⟨-, e⟩
  · rw [e]
    exact clearedForReset_fr x
  · rw [e] at h
    exact absurd h nofun

/-- A record that a trailer has displaced is lost: the reset it waited for takes effect (log 13). -/
theorem applyLoss_reset (hoc : s.oc = .active a) (hp : s.hw.resetPending = true) (hph : a.phase ≠ .trailerCheck) (hrun : fr.run = none)
    (hpost : fr.afterPosting = fr) :
    (afterBreak (applyLoss (s.setFr fr))).rc = s.rc ∧ resetTaken s (afterBreak (applyLoss (s.setFr fr))) ∧
      ((afterBreak (applyLoss (s.setFr fr))).oc = .stopping →
        (afterBreak (applyLoss (s.setFr fr))).fr = { fr with account := .empty }) := by
  have hz : (s.setFr fr).oc = .active a := hoc
  rw [applyLoss_pending hz hp, afterBreak_reset (z := s.setFr fr) hrun]
  have hdesc : describeCommitted (s.setFr fr) = s.setFr fr := by
    unfold describeCommitted
    rw [hz]
    exact if_neg fun hx => hph hx.1
  refine ⟨?_, controlResetEffect_taken rfl rfl rfl (.inl rfl), fun hst => ?_⟩
  · rw [controlResetEffect_rc (s := s.setFr fr) (.inr hrun), hdesc]
    rfl
  · rw [controlResetEffect_fr_of_stopping hst, show (s.setFr fr).fr = fr from rfl, hpost]

/-- ... and the command it waited for ends ABORTED. -/
theorem applyLoss_abort (hoc : s.oc = .active a) (hp : s.hw.resetPending = false) (ha : a.abortMark = true) (hrun : fr.run = none)
    (hpost : fr.afterPosting = fr) (hreceived : ∀ o, fr.record = some o → o.received = false) :
    (afterBreak (applyLoss (s.setFr fr))).rc = s.rc ∧ endsInFinish a .aborted 16 s (afterBreak (applyLoss (s.setFr fr))) ∧
      (afterBreak (applyLoss (s.setFr fr))).fr = fr ∧
      ∀ c, (afterBreak (applyLoss (s.setFr fr))).cmp = s.cmp.place c →
        c.qualifiers.fragments = (a.cmd.code.readClass && fr.account.fragments) := by
  have hz : (s.setFr fr).oc = .active a := hoc
  obtain ⟨-, -, -, k4, k5, -⟩ := conclude_finish_blocks a .aborted 16 (s.setFr fr) hp
  have hfr : (conclude a .aborted (.finish 16) (s.setFr fr)).fr = fr := k5.trans hpost
  have hopen : a.withOpenRecord fr = a := by
    unfold Active.withOpenRecord
    cases hrec : fr.record with
    | none => rfl
    | some o => exact if_neg (by simp [hreceived o hrec])
  rw [applyLoss_aborted hz hp ha]
  refine ⟨(afterBreak_rc _).trans k4,
    endsInFinish_after afterBreak_endKept (conclude_finish (s := s) (a := a) (b := a) 16 rfl rfl rfl rfl hp),
    (afterBreak_fr (by rw [hfr]; exact hrun)).trans hfr, fun c hc => ?_⟩
  rw [(afterBreak_keeps _).1, conclude_cmp _ _ _ _ (show (s.setFr fr).hw.resetPending = false from hp)] at hc
  rw [CompletionUnit.place_injective hc.symm]
  obtain ⟨e, stale, eq⟩ := postedRecord_eq a .aborted (s.setFr fr)
  rw [e, eq, show (s.setFr fr).fr = fr from rfl, hopen]
  rfl

/-- The ordinal and the count of a command that neither READ nor READ STREAM is, received or not. -/
theorem passedAfter_of_other (h1 : a.cmd.code ≠ .read) (h2 : a.cmd.code ≠ .readStream) (k : Trailer) (x y : Bool) :
    a.passedAfter k x = a.passedAfter k y := by
  unfold Active.passedAfter
  cases hc : a.cmd.code <;> first | rfl | contradiction

end Rows

end Sys2Proof.Machine
end

section
/-! PROOF. The run break opens and closes records (O50). -/

namespace Sys2Proof.Machine

/-- Settles O50: the break's closing half gives a close, a loss or neither, and each course of it is followed to its end. -/
theorem runBreakOpensAndClosesRecords : Obligations.RunBreakOpensAndClosesRecords := by
  refine ⟨fun r reverse h0 h1 h2 hfirst => ?header, fun r reverse x y hfirst => trailerPattern_iff hfirst, ?run⟩
  case header =>
    obtain ⟨k1, k2, k3, k4, k5⟩ := decodeHeader_counts (r := r) (reverse := reverse) hfirst
    intro h frames valid
    refine ⟨fun hv => decodeHeader_valid hfirst ((headerValid_iff h0 h1 h2).mpr hv), fun hv => decodeHeader_bad hfirst ?_,
      k1, k2, k3, k4, k5⟩
    exact Bool.eq_false_iff.mpr fun hx => hv ((headerValid_iff h0 h1 h2).mp hx)
  case run =>
    intro r s hund hr hcount hf opened next added tallied fragment reads opens passedForward passedReverse shown reaches closes
      inRecord reading gap restarted receives completes
    have hshown : ∀ k, shown k = trailerOf k := by
      intro k
      rcases k with _ | _ | _ <;> rfl
    have row {reverse : Bool} (hm : s.fr.mode = .parse reverse) {x : State} {p : ParseReport} (e : breakClose s = (x, p)) :
        exec .runBreak s = .next (afterBreak (applyReport p x)) := by
      rw [exec_runBreak hund hm hr hcount hf, e]
    have notCheck {a : Active} (hoc : s.oc = .active a) (hp : s.hw.resetPending = true) : a.phase ≠ .trailerCheck := fun hx => by
      rw [State.notPending_of_point hund (by simp [State.resetPoint, hoc, hx])] at hp
      exact Bool.false_ne_true hp
    refine ⟨fun hm => ⟨fun a hoc hph ho => ?gap, fun a o x hoc hph ho hl hx => ?single, fun o h u ho hh hl hsel => ?trailer,
      fun o h u ho hh hl hsel => ?headerRun⟩, fun hm hpass => ⟨fun f hoc => ?reverseFinish, fun a hoc hph ho => ?reverseGap,
      fun a o hoc hph ho => ?reverseRecord, fun a u hoc hsel hl => ?reverseHeader⟩⟩
    case gap =>
      refine ⟨fun hl => ?_, fun hl => ?_⟩
      · have e := row hm (breakClose_gap_header hr hm ho hl)
        rw [talliedBy_of_active hoc] at e
        exact e.trans (congrArg Host.Outcome.next (afterBreak_opens_header hoc hph ho rfl hm hl))
      · have e := row hm (breakClose_gap_fragment hr hm ho hl)
        rw [markFragments_of_active hoc] at e
        exact e.trans (congrArg Host.Outcome.next (afterBreak_of_agreeing (x := s.setFr fragment) hoc rfl (.inl ⟨ho, hph⟩)))
    case single =>
      have e := row hm (breakClose_record_single hr hm ho hl)
      rw [markFragments_of_active hoc, takeLcf_eq ho hx, talliedBy_of_active hoc] at e
      refine ⟨fun hlcf => ?_, fun hlcf => ?_⟩
      · rw [hlcf] at e
        exact e.trans (congrArg Host.Outcome.next (afterBreak_of_agreeing (x := s.setFr _) hoc rfl (.inr ⟨rfl, hph⟩)))
      · rw [hlcf] at e
        exact e.trans (congrArg Host.Outcome.next
          (afterBreak_of_agreeing (x := s.setFr fragment) hoc rfl (.inr ⟨by simp [fragment, State.setFr, ho], hph⟩)))
    case trailer =>
      have e := row hm (breakClose_record_trailer hr hm hsel ho hh hl)
      rw [← hshown] at e
      intro k placed
      have eactive {a : Active} (hoc : s.oc = .active a) :
          exec .runBreak s = .next (s.broken (closeReportOf s o h k) { s.fr with run := none, account := tallied } placed) := by
        rw [talliedBy_of_active hoc] at e
        exact e
      have closed {a : Active} (hoc : s.oc = .active a) (hp : s.hw.resetPending = false) {more : State → Prop}
          (hmore : more (s.broken (closeReportOf s o h k) { s.fr with run := none, account := tallied } placed)) :
          closes placed more :=
        have hplaced := broken_placed hoc hp (fr := { s.fr with run := none, account := tallied }) rfl (closeReportOf s o h k) placed
        ⟨_, eactive hoc, hplaced.1, hplaced.2, hmore⟩
      have inGap {a : Active} (hph : reading a) : a.phase = .record ∨ a.phase = .search ∨ a.phase = .ramp :=
        hph.elim .inl fun e => .inr (.inr e)
      refine ⟨fun f hoc => ?_, fun a hoc hph hp => ?_, fun a hoc hph hp ha => ?_, fun a hoc hph hp ha => ⟨?_, fun hrec hg => ?_,
        fun hrec hg => ?_⟩⟩
      · rw [talliedBy_of_inactive (not_active_of_finishing hoc)] at e
        exact e.trans (congrArg Host.Outcome.next 
          (broken_finishing (fr := { s.fr with run := none }) hoc rfl (closeReportOf s o h k) placed))
      · obtain ⟨h1, h2, h3⟩ := broken_reset (fr := { s.fr with run := none, account := tallied }) hoc hp (notCheck hoc hp) rfl
          (closeReportOf s o h k) placed
        exact ⟨_, eactive hoc, h1, h2, h3⟩
      · exact closed hoc hp (broken_aborted hoc hp ha o h k { s.fr with run := none, account := tallied } placed)
      · exact closed hoc hp (broken_counts (fr := { s.fr with run := none, account := tallied }) hoc hp ha rfl (inGap hph) o h k placed)
      · obtain ⟨hgoes, hacct⟩ := broken_unreceived (fr := { s.fr with run := none, account := tallied }) hoc hp ha rfl (inGap hph)
          hrec hg h k placed
        obtain ⟨h1, -, -, h4, h5, h6⟩ := id hgoes
        exact closed hoc hp ⟨h1, search_of_goesOn hgoes, hacct, h4, h5, h6⟩
      · intro bad ends
        have ended {outcome : CmdOutcome} (hx : EndsReceived a o h k outcome tallied s
            (s.broken (closeReportOf s o h k) { s.fr with run := none, account := tallied } placed)) : ends outcome :=
          closed hoc hp hx
        have ranked {outcome : CmdOutcome} (hk : k ≠ .void) (he : receivedOutcome s o h k = outcome) : ends outcome :=
          he ▸ ended (broken_received hoc hp ha hg hrec hk h { s.fr with run := none, account := tallied } placed)
        have sealed (hk : k = .commit) : k ≠ .none ∧ k ≠ .void := by
          rw [hk]
          exact ⟨nofun, nofun⟩
        refine ⟨fun hk => ranked (by rw [hk]; nofun) (if_pos hk), fun hk h1 => ranked (sealed hk).2 ?_,
          fun hk h1 h2 => ranked (sealed hk).2 ?_, fun hk h1 h2 h3 => ranked (sealed hk).2 ?_,
          fun hk h1 h2 h3 => ranked (sealed hk).2 ?_, fun hk hc => ended (broken_voidStream hoc hp ha hg hc hk h _ placed),
          fun hk hc hn => ended (broken_voidLimit hoc hp ha hg hc hk ?_ h placed), fun hk hc hn => ?_⟩
        · simp [receivedOutcome, (sealed hk).1, show s.badRecord h = true from h1]
        · simp [receivedOutcome, (sealed hk).1, show s.badRecord h = false from h1, h2]
        · simp [receivedOutcome, (sealed hk).1, show s.badRecord h = false from h1, h2, h3]
        · simp [receivedOutcome, (sealed hk).1, show s.badRecord h = false from h1, h2, h3]
        · rw [show tallied.voids = s.fr.account.voids from tallied_voids s.fr _ _ _]
          exact hn
        · have hvoids : tallied.voids = s.fr.account.voids := tallied_voids s.fr _ _ _
          obtain ⟨h1, h2, h3, h4, h5⟩ := broken_skips (fr := { s.fr with run := none, account := tallied }) hoc hp ha hg rfl
            (inGap hph) hc hk (by rw [hvoids]; exact hn) h placed
          obtain ⟨k1, -, k3, k4, k5, k6, k7⟩ := skipping_eq (a := a) (s := s) hg hc h
          rw [← hk] at k4
          rw [hvoids] at h3
          exact closed hoc hp ⟨{ a.skipping o h s with phase := a.gap }, h1, k1, rfl, k3, k4, k5, k6, k7, h2, h3, h4, h5⟩
    case headerRun =>
      have e := row hm (breakClose_record_header hr hm hsel ho hh hl)
      intro placed opensNext opensUnreceived
      have eactive {a : Active} (hoc : s.oc = .active a) :
          exec .runBreak s = .next (s.broken (closeReportOf s o h .none) { s.fr with run := some r, account := tallied } placed) := by
        rw [talliedBy_of_active hoc] at e
        exact e
      have unreceived {t : State} {fr : FrameReader} (hf : t.fr = fr.opening r.released) (hc : fr.runCount = s.fr.runCount) :
          opensUnreceived t := by
        refine ⟨opensNext_of_opening hc (.inr hf), ?_⟩
        rw [hf]
        rfl
      refine ⟨fun f hoc => ?_, fun a hoc hph hp => ?_, fun a hoc hph hp ha => ?_, fun a hoc hph ha hp => ⟨fun hw hmv => ?_,
        fun hrec hg => ?_, fun hrec hg => ?_⟩⟩
      · rw [talliedBy_of_inactive (not_active_of_finishing hoc)] at e
        exact e.trans (congrArg Host.Outcome.next (broken_header_finishing (fr := { s.fr with run := some r }) rfl hm hl hoc
          (closeReportOf s o h .none) placed))
      · obtain ⟨h1, h2, h3⟩ := broken_header_reset (fr := { s.fr with run := some r, account := tallied }) rfl hm hl hoc hp
          (notCheck hoc hp) (closeReportOf s o h .none) placed
        exact ⟨_, eactive hoc, h1, h2, fun hst => unreceived (h3 hst) rfl⟩
      · obtain ⟨h1, acct, h2⟩ := broken_header_aborted (fr := { s.fr with run := some r, account := tallied }) rfl hm hl hoc hp ha
          o h .none placed
        exact ⟨_, eactive hoc, h1, broken_aborted hoc hp ha o h .none _ placed, unreceived h2 rfl⟩
      · obtain ⟨h1, h2, h3, h4⟩ := broken_header_counts (fr := { s.fr with run := some r, account := tallied }) rfl hm hl hoc hp ha
          hph hsel hw hmv o h .none placed
        exact ⟨_, eactive hoc, h1, opensNext_of_opening h3 h2, h4⟩
      · obtain ⟨h1, h2, h3, -, -, h6, h7, h8⟩ := broken_header_unreceived
          (fr := { s.fr with run := some r, account := tallied }) rfl hm hl hoc hp ha hph hrec hg h .none placed
        have hnext := opensNext_of_opening (s := s) (fr' := { s.fr with run := some r, account := tallied }) rfl (.inl h2)
        refine ⟨_, eactive hoc, h1, hnext, ?_, h3, ?_, h6, h7, h8⟩
        · rw [h2]
          rfl
        · rw [h2]
          rfl
      · obtain ⟨h1, acct, h2⟩ := broken_header_received (fr := { s.fr with run := some r, account := tallied }) rfl hm hl hoc hp ha
          hrec hg h placed
        obtain ⟨h3, h4⟩ := broken_received hoc hp ha hg hrec (k := .none) nofun h { s.fr with run := some r, account := tallied } placed
        exact ⟨_, eactive hoc, h1, h3, h4, unreceived h2 rfl⟩
    case reverseFinish =>
      have hno := not_active_of_finishing hoc
      have still {fr : FrameReader} (hrun : fr.run = none) (e : breakClose s = (s.setFr fr, .quiet)) : reads fr :=
        (row hm e).trans (congrArg Host.Outcome.next (afterBreak_of_finishing hoc hrun))
      refine ⟨fun x hl hx => ⟨fun ho => ?_, fun o ho hlcf => ?_, fun o ho hlcf => ?_⟩,
        fun hl => ⟨fun k hk => ?_, fun hk => ?_⟩, fun u hl hsel => ?_⟩
      · exact still rfl (breakClose_reverse_lcf hr hm hpass hl hx ho)
      · have e := breakClose_reverse_single hr hm hl ho
        rw [takeLcf_eq ho hx, talliedBy_of_pass hpass, hlcf] at e
        exact still rfl e
      · have e := breakClose_reverse_single hr hm hl ho
        rw [markFragments_of_inactive hno, hlcf] at e
        exact still rfl e
      · cases ho : s.fr.record with
        | none => exact still rfl (breakClose_reverse_opens hr hm hpass hl hk ho)
        | some o =>
          have e := row hm (breakClose_reverse_displaces hr hm hpass hl hk ho)
          rw [inForce_of_inactive hno] at e
          refine e.trans (congrArg Host.Outcome.next ?_)
          exact (congrArg afterBreak (applyLoss_of_inactive (z := s.setFr (s.fr.openingReverse false (some k) 0)) hno)).trans
            (afterBreak_of_finishing hoc rfl)
      · have e := breakClose_reverse_fragment hr hm hl hk
        rw [markFragments_of_inactive hno] at e
        exact still rfl e
      · intro h
        obtain ⟨o, acc, e, hnone, hsome⟩ := breakClose_reverse_header hr hm hpass hsel hl
        have e' := (row hm e).trans (congrArg Host.Outcome.next
          (broken_finishing (fr := { s.fr with run := none, acc := acc }) hoc rfl _ _))
        refine ⟨fun ho => ?_, fun p ho => ?_⟩
        · rw [e', hnone ho, ho]
          exact congrArg (fun q => Host.Outcome.next
            { s with
              rc := passedReverse u (s.readRecord h .none)
              fr := { s.fr with run := none, record := q, closeCount := 0, search := none, acc := r.xor } }) ho.symm
        · rw [e', hsome p ho, ho, ← hshown]
          rfl
    case reverseGap =>
      refine ⟨fun x hl hx => ?_, fun hl => ⟨fun k hk => ?_, fun hk => ?_⟩⟩
      · exact (row hm (breakClose_reverse_lcf hr hm hpass hl hx ho)).trans
          (congrArg Host.Outcome.next (afterBreak_opens hoc rfl rfl))
      · exact (row hm (breakClose_reverse_opens hr hm hpass hl hk ho)).trans
          (congrArg Host.Outcome.next (afterBreak_opens hoc rfl rfl))
      · have e := row hm (breakClose_reverse_fragment hr hm hl hk)
        rw [markFragments_of_active hoc] at e
        exact e.trans (congrArg Host.Outcome.next (afterBreak_of_agreeing (x := s.setFr fragment) hoc rfl (.inl ⟨ho, hph⟩)))
    case reverseRecord =>
      have isOpen : fragment.record.isSome = true := by simp [fragment, ho]
      have marked : exec .runBreak s = .next (afterBreak (s.setFr fragment)) → reads fragment := fun e =>
        e.trans (congrArg Host.Outcome.next (afterBreak_of_agreeing (x := s.setFr fragment) hoc rfl (.inr ⟨isOpen, hph⟩)))
      refine ⟨fun x hl hx => ⟨fun hlcf => ?_, fun hlcf => ?_⟩, fun hl => ⟨fun hk => ?_, fun k hk => ?_⟩⟩
      · have e := row hm (breakClose_reverse_single hr hm hl ho)
        rw [takeLcf_eq ho hx, talliedBy_of_pass hpass, hlcf] at e
        exact e.trans (congrArg Host.Outcome.next (afterBreak_of_agreeing (x := s.setFr _) hoc rfl (.inr ⟨rfl, hph⟩)))
      · have e := row hm (breakClose_reverse_single hr hm hl ho)
        rw [markFragments_of_active hoc, hlcf] at e
        exact marked e
      · have e := row hm (breakClose_reverse_fragment hr hm hl hk)
        rw [markFragments_of_active hoc] at e
        exact marked e
      · intro displaced
        have e := row hm (breakClose_reverse_displaces hr hm hpass hl hk ho)
        rw [inForce_of hoc] at e
        have e' : exec .runBreak s = .next (afterBreak (applyLoss (s.setFr displaced))) := e
        refine ⟨fun hp ha => ?_, fun hp ha => ?_, fun hp => ?_⟩
        · rw [applyLoss_of_command (z := s.setFr displaced) hoc hp ha] at e'
          exact e'.trans (congrArg Host.Outcome.next
            (afterBreak_of_agreeing (x := s.setFr displaced) hoc rfl (.inr ⟨rfl, hph⟩)))
        · obtain ⟨h1, h2, h3, h4⟩ := applyLoss_abort (fr := displaced) hoc hp ha rfl rfl fun o ho => by cases ho; rfl
          exact ⟨_, e', h1, h2, h3, fun c hc => (h4 c hc).trans (Bool.and_true _)⟩
        · obtain ⟨h1, h2, h3⟩ := applyLoss_reset (fr := displaced) hoc hp (notCheck hoc hp) rfl rfl
          refine ⟨_, e', h1, h2, fun hst => ?_⟩
          rw [h3 hst]
    case reverseHeader =>
      intro h k placed
      obtain ⟨o, acc, e, -⟩ := breakClose_reverse_header hr hm hpass hsel hl
      rw [← hshown] at e
      have e' : exec .runBreak s = .next (s.broken (closeReportOf s o h k) { s.fr with run := none, acc := acc } placed) := row hm e
      have closed (hp : s.hw.resetPending = false) {more : State → Prop}
          (hmore : more (s.broken (closeReportOf s o h k) { s.fr with run := none, acc := acc } placed)) : closes placed more :=
        have hplaced := broken_placed hoc hp (fr := { s.fr with run := none, acc := acc }) rfl (closeReportOf s o h k) placed
        ⟨_, e', hplaced.1, hplaced.2, hmore⟩
      refine ⟨fun hph hp => ?_, fun hph hp ha => ?_, fun hph hp ha => ?_, fun hph hc hp ha => ?_⟩
      · obtain ⟨h1, h2, h3⟩ := broken_reset (fr := { s.fr with run := none, acc := acc }) hoc hp (notCheck hoc hp) rfl
          (closeReportOf s o h k) placed
        exact ⟨_, e', h1, h2, h3⟩
      · obtain ⟨h1, -, -, h4⟩ := broken_aborted hoc hp ha o h k { s.fr with run := none, acc := acc } placed
        refine closed hp ⟨h1, fun c hc hread hcode hcode' => ?_⟩
        obtain ⟨k1, -, -, k4⟩ := (h4 c hc).1.1 hread
        exact ⟨k1.trans (passedAfter_of_other hcode hcode' k _ _), k4 hcode hcode'⟩
      · have inGap : a.phase = .record ∨ a.phase = .search ∨ a.phase = .ramp := by
          rcases hph with e | e | e
          · exact .inr (.inl e)
          · exact .inl e
          · exact .inr (.inr e)
        exact closed hp (broken_counts (fr := { s.fr with run := none, acc := acc }) hoc hp ha rfl inGap o h k placed)
      · obtain ⟨h1, h2⟩ := broken_turn hoc hp ha hph hc o h k { s.fr with run := none, acc := acc } placed
        exact closed hp ⟨h1, fun c hcmp => ⟨(h2 c hcmp).1, (h2 c hcmp).2.1⟩⟩

end Sys2Proof.Machine
end
